-- ==== Sys2Proof/Word.lean ====
section
/-! DEFINITION. The plain words of the engine: the operation word, a byte of a descriptor, a level, a reference. -/

namespace Sys2Proof

/-- An operation word `op[7:0]` (30_encoding.md R93). -/
abbrev OpWord := BitVec 8

/-- A byte of a fixed-code descriptor's buffer (20_memory.md R63). -/
abbrev Byte := BitVec 8

/-- A level of the output line or a one-bit register: `true` is 1 (high), `false` is 0 (low)
(00_scope.md R17). -/
abbrev Level := Bool

/-- A reference to a transmission descriptor. The spec gives it no width and no address
(20_memory.md R60); only equality of references is ever used. DESIGN CHOICE, log 6. -/
abbrev TxRef := Nat

end Sys2Proof
end

