-- ==== Sys2Proof/Config.lean ====
section
/-! DEFINITION. What is fixed outside the engine: the configured constants of 00_scope.md R8 to R12, and the
transmission descriptor of 20_memory.md R61 to R63. No operation writes either (10_state.md R48). -/

namespace Sys2Proof

/-- The output backend (00_scope.md R10). No rule reads it. -/
inductive Backend where
  | gpioDirect
  | radioFrontEnd
  deriving DecidableEq, Repr

/-- The configuration of the engine (00_scope.md R8 to R12), raw: `Params.legal` says which values are legal. -/
structure Params where
  /-- `SYNC_CYCLES`, base-clock cycles of the preamble (R8). -/
  syncCycles : Nat
  /-- `WAIT_CYCLES`, low cycles between the preamble and the first repetition (R8). -/
  waitCycles : Nat
  /-- `GAP_CYCLES`, low cycles between repetitions (R8). -/
  gapCycles : Nat
  /-- `ASK_TICKS_ONE`, tick budget of a code bit 1 (R8). -/
  askTicksOne : Nat
  /-- `ASK_TICKS_ZERO`, tick budget of a code bit 0 (R8). -/
  askTicksZero : Nat
  /-- `BACKEND` (R10). -/
  backend : Backend
  /-- `CTR_W`, the width of every counter in bits, or `none` for unbounded naturals (R11, R52). -/
  ctrW : Option Nat
  /-- `CQ_DEPTH`, the depth of the completion queue (R12). -/
  cqDepth : Nat
  deriving DecidableEq, Repr

/-- The configuration State.reset carries. The spec gives the constants no value; these are the values of its own
scenario S1 with the budgets of vector V20 (95_test_vectors.md). DESIGN CHOICE, unsafe, log 4. -/
def Config.atReset : Params :=
  { syncCycles := 4, waitCycles := 1, gapCycles := 1, askTicksOne := 6, askTicksZero := 2,
    backend := .gpioDirect, ctrW := none, cqDepth := 1 }

/-- The two concrete generator variants a descriptor can name (20_memory.md R61). -/
inductive Variant where
  | pulse
  | fixed
  deriving DecidableEq, Repr

/-- The payload of a pulse-code descriptor, raw (20_memory.md R62): an element of `code` other than 0 or 1 and a
length `L` that is not that of `code` can be written down, and `Descriptor.wellFormed` rejects them. -/
structure PulsePayload where
  /-- `tx.code`, element 0 first. -/
  code : List Nat
  /-- `tx.L`, the code length. -/
  L : Nat
  /-- `tx.R`, the repetition count. -/
  R : Nat
  deriving DecidableEq, Repr

/-- The payload of a fixed-code descriptor, raw (20_memory.md R63). -/
structure FixedPayload where
  /-- `tx.data`, the byte buffer. -/
  data : List Byte
  /-- `tx.code_len`, the number of bytes. -/
  codeLen : Nat
  /-- `tx.bit_rate`, opaque; no rule reads it. -/
  bitRate : Nat
  /-- `tx.repetitions`, the repetition count. -/
  repetitions : Nat
  /-- `tx.ticks_between_repetitions`, the gap in ticks. -/
  ticksBetween : Nat
  deriving DecidableEq, Repr

/-- A payload by variant (20_memory.md R61). -/
inductive Payload where
  | pulse (q : PulsePayload)
  | fixed (q : FixedPayload)
  deriving DecidableEq, Repr

/-- A transmission descriptor (20_memory.md R61). No rule reads `name`. -/
structure Descriptor where
  name : String
  payload : Payload
  deriving DecidableEq, Repr

/-- `tx.variant`: the variant is the payload's, so a descriptor never carries `Invalid` (30_encoding.md R98). -/
def Descriptor.variant (d : Descriptor) : Variant :=
  match d.payload with
  | .pulse _ => .pulse
  | .fixed _ => .fixed

end Sys2Proof
end

