-- ==== Sys2Proof/Syntax.lean ====
section
/-! DEFINITION. The operations of the engine: one constructor of `Instr` per row of spec/opcode_table.json, with the
operands that travel beside the word (30_encoding.md R95, R96). -/

namespace Sys2Proof

/-- The class of an operation, `op[7:6]` (30_encoding.md R93). -/
inductive OpClass where
  /-- `00`, task-context command. -/
  | task
  /-- `01`, interrupt event. -/
  | event
  /-- `10`, internal primitive. -/
  | primitive
  deriving DecidableEq, Repr

/-- The clean-up functions `SCHED` can queue: there is one (30_encoding.md R96). -/
inductive CleanupFn where
  | cleanup
  deriving DecidableEq, Repr

/-- The typed values that travel beside an operation word (30_encoding.md R93, R96). An operation reads those its
row names and no other. -/
structure Operands where
  tx : TxRef
  hwOk : Bool
  index : Nat
  fn : CleanupFn
  deriving DecidableEq, Repr

/-- All operands zero: reference 0, `hw_ok` = 0, index 0, and the only clean-up function. -/
def Operands.zero : Operands := { tx := 0, hwOk := false, index := 0, fn := .cleanup }

/-- The fifteen operations (30_encoding.md R95). -/
inductive Instr where
  /-- `ACQ tx` (40_antenna.md R110). -/
  | acq (tx : TxRef)
  /-- `REL` (40_antenna.md R111). -/
  | rel
  /-- `BSY` (40_antenna.md R112). -/
  | bsy
  /-- `BEGIN tx, hw_ok` (41_generator_interface.md R130). -/
  | begin (tx : TxRef) (hwOk : Bool)
  /-- `DISPATCH` (44_dispatcher.md R197). -/
  | dispatch
  /-- `REQ tx, hw_ok` (40_antenna.md R113). -/
  | req (tx : TxRef) (hwOk : Bool)
  /-- `REQI index, hw_ok` (40_antenna.md R114). -/
  | reqi (index : Nat) (hwOk : Bool)
  /-- `BRISE` (42_pulse_code.md R150). -/
  | brise
  /-- `BFALL` (42_pulse_code.md R155). -/
  | bfall
  /-- `STICK` (42_pulse_code.md R156). -/
  | stick
  /-- `FTICK` (43_fixed_code.md R180). -/
  | ftick
  /-- `SETOUT l` (41_generator_interface.md R134). -/
  | setout (l : Level)
  /-- `TERM` (44_dispatcher.md R195). -/
  | term
  /-- `SCHED fn, tx` (44_dispatcher.md R196). -/
  | sched (fn : CleanupFn) (tx : TxRef)
  /-- `CLEANUP tx` (44_dispatcher.md R198). -/
  | cleanup (tx : TxRef)
  deriving DecidableEq, Repr

end Sys2Proof
end

