-- ==== Sys2Proof/WellFormed.lean ====
section
/-! DEFINITION. The checks of the spec on what is handed to the engine: a configuration (00_scope.md R8, R9, R11, R12)
and a transmission descriptor (41_generator_interface.md R130). An `Instr` itself needs none: its operands are typed
values, and every value of their types is legal (30_encoding.md R96). -/

namespace Sys2Proof

/-- A legal configuration: `ASK_TICKS_ONE > ASK_TICKS_ZERO` (00_scope.md R9), `CQ_DEPTH` 1 or more (R12), `CTR_W`
absent or positive (R11; 93_implementation_defined.md, section 2). Everything else may be any natural number (R8). -/
def Params.legal (c : Params) : Bool :=
  decide (c.askTicksZero < c.askTicksOne) && decide (1 ≤ c.cqDepth) && decide (c.ctrW ≠ some 0)

/-- The `Pulse` case of `WellFormed(tx)` (41_generator_interface.md R130; 20_memory.md R62). -/
def PulsePayload.wellFormed (q : PulsePayload) : Bool :=
  decide (1 ≤ q.L) && decide (q.L = q.code.length) && decide (1 ≤ q.R) && q.code.all (fun b => decide (b ≤ 1))

/-- The `Fixed` case of `WellFormed(tx)` (41_generator_interface.md R130; 20_memory.md R63). -/
def FixedPayload.wellFormed (q : FixedPayload) : Bool :=
  decide (1 ≤ q.codeLen) && decide (q.codeLen = q.data.length) && decide (1 ≤ q.repetitions)

/-- `WellFormed(tx)` (41_generator_interface.md R130). -/
def Descriptor.wellFormed (d : Descriptor) : Bool :=
  match d.payload with
  | .pulse q => q.wellFormed
  | .fixed q => q.wellFormed

end Sys2Proof
end

