-- ==== Sys2Proof/Decode.lean ====
section
/-! DEFINITION. The decoder of operation words, total on all 256 words and rejecting by name, and after it the encoder
(30_encoding.md R93 to R97). Operands are not part of the word: they are handed over beside it (R93, R96). -/

namespace Sys2Proof

/-- Why a word is not an operation. -/
inductive DecodeError where
  /-- The word is not in the table (30_encoding.md R97). -/
  | reservedOp
  /-- A class `10` word presented from outside (30_encoding.md R94). -/
  | internalOnly
  deriving DecidableEq, Repr

/-- `cls = op[7:6]` (30_encoding.md R93). -/
def opCls (w : OpWord) : Nat := w.toNat / 64

/-- `fn = op[5:0]` (30_encoding.md R93). -/
def opFn (w : OpWord) : Nat := w.toNat % 64

/-- Class `00`, by function number (30_encoding.md R95). -/
def decodeTask (fn : Nat) (a : Operands) : Option Instr :=
  match fn with
  | 0 => some (.acq a.tx)
  | 1 => some .rel
  | 2 => some .bsy
  | 3 => some (.begin a.tx a.hwOk)
  | 4 => some .dispatch
  | 5 => some (.req a.tx a.hwOk)
  | 6 => some (.reqi a.index a.hwOk)
  | _ => none

/-- Class `01`, by function number (30_encoding.md R95). -/
def decodeEvent (fn : Nat) : Option Instr :=
  match fn with
  | 0 => some .brise
  | 1 => some .bfall
  | 2 => some .stick
  | 3 => some .ftick
  | _ => none

/-- Class `10`, by function number; the level of `SETOUT` is `op[0]` (30_encoding.md R93, R95). -/
def decodePrimitive (fn : Nat) (a : Operands) : Option Instr :=
  match fn with
  | 0 => some (.setout false)
  | 1 => some (.setout true)
  | 2 => some .term
  | 3 => some (.sched a.fn a.tx)
  | 4 => some (.cleanup a.tx)
  | _ => none

/-- The operation a word of the table names, wherever it comes from; `none` for a reserved word
(30_encoding.md R95, R97). -/
def decodeWord (w : OpWord) (a : Operands) : Option Instr :=
  match opCls w with
  | 0 => decodeTask (opFn w) a
  | 1 => decodeEvent (opFn w)
  | 2 => decodePrimitive (opFn w) a
  | _ => none

/-- The class of an operation (30_encoding.md R95). -/
def opClassOf (i : Instr) : OpClass :=
  match i with
  | .acq _ | .rel | .bsy | .begin _ _ | .dispatch | .req _ _ | .reqi _ _ => .task
  | .brise | .bfall | .stick | .ftick => .event
  | .setout _ | .term | .sched _ _ | .cleanup _ => .primitive

/-- The decoder. `outside` says that the word was presented from outside the engine, by software or by a timer: a
class `10` word is then refused (30_encoding.md R94); a reserved word is refused wherever it comes from (R97). -/
def decode (outside : Bool) (w : OpWord) (a : Operands) : Except DecodeError Instr :=
  match decodeWord w a with
  | none => .error .reservedOp
  | some i => if outside && opClassOf i == .primitive then .error .internalOnly else .ok i

/-- What the decoder reads from a row of the opcode table: one length, 8 bits (30_encoding.md R100), all operands
zero, class `10` words taken as naming a step inside an operation (R94). -/
def decodeTableWord (nbits w : Nat) : Option Instr :=
  if nbits = 8 ∧ w < 256 then decodeWord (BitVec.ofNat 8 w) Operands.zero else none

/-- The word of an operation (30_encoding.md R95). -/
def encodeWord (i : Instr) : OpWord :=
  match i with
  | .acq _ => 0x00#8
  | .rel => 0x01#8
  | .bsy => 0x02#8
  | .begin _ _ => 0x03#8
  | .dispatch => 0x04#8
  | .req _ _ => 0x05#8
  | .reqi _ _ => 0x06#8
  | .brise => 0x40#8
  | .bfall => 0x41#8
  | .stick => 0x42#8
  | .ftick => 0x43#8
  | .setout false => 0x80#8
  | .setout true => 0x81#8
  | .term => 0x82#8
  | .sched _ _ => 0x83#8
  | .cleanup _ => 0x84#8

/-- The operands that travel beside the word, those the row does not name at zero (30_encoding.md R95, R96). -/
def encodeOperands (i : Instr) : Operands :=
  match i with
  | .acq tx => { Operands.zero with tx := tx }
  | .begin tx hw => { Operands.zero with tx := tx, hwOk := hw }
  | .req tx hw => { Operands.zero with tx := tx, hwOk := hw }
  | .reqi ix hw => { Operands.zero with index := ix, hwOk := hw }
  | .sched fn tx => { Operands.zero with fn := fn, tx := tx }
  | .cleanup tx => { Operands.zero with tx := tx }
  | .rel | .bsy | .dispatch | .brise | .bfall | .stick | .ftick | .setout _ | .term => Operands.zero

/-- The encoder: the word and the operands beside it (30_encoding.md R95, R96). -/
def encode (i : Instr) : OpWord × Operands := (encodeWord i, encodeOperands i)

end Sys2Proof
end

