-- ==== Sys2Proof/Machine/State.lean ====
section
/-! DEFINITION. The state of the engine as plain data (10_state.md R20 to R51), the reasons a step can stop, and the
state after reset (R49). The last six fields of `State` are the model's own home of what the spec calls parameters,
inputs and outputs of a step (R48; 00_scope.md R15, R16): logs 1, 3, 4, 5, 6, 11. -/

namespace Sys2Proof.Machine

/-- A lifecycle callback slot (10_state.md R24): the body of a callback is outside the engine. -/
inductive Slot where
  | empty
  | filled
  deriving DecidableEq, Repr

/-- Group `ANT` (10_state.md R21 to R24). -/
structure Antenna where
  /-- `ANT.busy` (R21). -/
  busy : Bool
  /-- `ANT.active` (R22). -/
  active : Option TxRef
  /-- `ANT.hook_begin` (R24). -/
  hookBegin : Slot
  /-- `ANT.hook_end` (R24). -/
  hookEnd : Slot
  deriving DecidableEq, Repr

/-- Group `P`, the pulse-code generator's working registers (10_state.md R29 to R36). -/
structure PulseRegs where
  /-- `P.c` (R29). -/
  c : Nat
  /-- `P.bit_idx` (R30). -/
  bitIdx : Nat
  /-- `P.osc_running` (R31). -/
  oscRunning : Bool
  /-- `P.osc_budget` (R32). -/
  oscBudget : Nat
  /-- `P.osc_level` (R33). -/
  oscLevel : Level
  /-- `P.next_rep_start` (R34). -/
  nextRepStart : Nat
  /-- `P.reps_sent` (R35). -/
  repsSent : Nat
  /-- `P.terminated` (R36). -/
  terminated : Bool
  deriving DecidableEq, Repr

/-- Group `F`, the fixed-code generator's working registers (10_state.md R37 to R41). -/
structure FixedRegs where
  /-- `F.t` (R37). -/
  t : Nat
  /-- `F.bit_idx` (R38). -/
  bitIdx : Nat
  /-- `F.rep_idx` (R39). -/
  repIdx : Nat
  /-- `F.next_rep_start` (R40). -/
  nextRepStart : Nat
  /-- `F.terminated` (R41). -/
  terminated : Bool
  deriving DecidableEq, Repr

/-- The one generator slot (10_state.md R27, R28): `GEN.tag` is the constructor, `GEN.tx` its first argument, and the
registers of groups `P` and `F` hold a value only under their own tag (R27: "a model must not give them one"). Log 8. -/
inductive Gen where
  | invalid
  | pulse (tx : TxRef) (p : PulseRegs)
  | fixed (tx : TxRef) (f : FixedRegs)
  deriving DecidableEq, Repr

/-- The values of `GEN.tag` (10_state.md R27). -/
inductive GenTag where
  | invalid
  | pulse
  | fixed
  deriving DecidableEq, Repr

/-- `GEN.tag`. -/
def Gen.tag (g : Gen) : GenTag :=
  match g with
  | .invalid => .invalid
  | .pulse _ _ => .pulse
  | .fixed _ _ => .fixed

/-- `GEN.tx`. -/
def Gen.tx (g : Gen) : Option TxRef :=
  match g with
  | .invalid => none
  | .pulse tx _ => some tx
  | .fixed tx _ => some tx

/-- Group `TMR` (10_state.md R43, R45). -/
structure Timers where
  /-- `TMR.base_on` (R43). -/
  baseOn : Bool
  /-- `TMR.base_level` (R43). -/
  baseLevel : Level
  /-- `TMR.fixed_on` (R45). -/
  fixedOn : Bool
  deriving DecidableEq, Repr

/-- A token of the completion queue (10_state.md R47). -/
structure Token where
  fn : CleanupFn
  tx : TxRef
  deriving DecidableEq, Repr

/-- The notification events (60_exceptions.md R239; 10_state.md R46). -/
inductive Notification where
  | processing (tx : TxRef)
  | busy (tx : TxRef)
  | completed (tx : TxRef)
  | unknownSignal (index : Nat)
  deriving DecidableEq, Repr

/-- The elements of `LOG` (10_state.md R46). -/
inductive Event where
  | hookBegin (tx : TxRef)
  | hookEnd
  | notify (n : Notification)
  deriving DecidableEq, Repr

/-- What a step hands back to whoever issued the operation (00_scope.md R15, R16; 30_encoding.md R95, column
"result"). MODEL'S OWN output port, log 3. -/
inductive Reply where
  | nothing
  | admitted
  | rejectedBusy
  | bit (b : Bool)
  | ok
  | errHardwareFault
  | accepted
  | failedHardwareFault
  | unknownSignal
  deriving DecidableEq, Repr

/-- Who presents an operation word (30_encoding.md R94; 60_exceptions.md R231): software in task context and a timer
stand outside the engine; the other two stand for a call made inside a running operation. MODEL'S OWN input, logs 1
and 9. -/
inductive Origin where
  | software
  | timer
  | insideTask
  | insideHandler
  deriving DecidableEq, Repr

/-- What boot software sets before the first request (70_reset_and_hazards.md R252 to R254). -/
structure Boot where
  cfg : Params
  hookBegin : Slot
  hookEnd : Slot
  signals : List (Nat × TxRef)
  deriving DecidableEq, Repr

/-- One thing the outside does to the engine; the schedule of 00_scope.md R14 is a list of them. MODEL'S OWN, log 1. -/
inductive Input where
  /-- An operation word with its operands (30_encoding.md R93, R96). -/
  | operation (origin : Origin) (word : OpWord) (operands : Operands)
  /-- The caller writes (`some`) or removes (`none`) a descriptor of its own storage (20_memory.md R60, R64). Log 20. -/
  | descriptor (tx : TxRef) (d : Option Descriptor)
  /-- Boot software configures the engine (70_reset_and_hazards.md R254). Log 11. -/
  | boot (b : Boot)
  deriving DecidableEq, Repr

/-- The machine stops with a fault. -/
inductive Fault where
  /-- Raised by `TERM` when `GEN.tag` is `Invalid`: a register of group `P` or `F` is read while it holds no value
  (93_implementation_defined.md U1; 10_state.md R27). Safe: the spec gives no behaviour. -/
  | registerHoldsNoValue
  deriving DecidableEq, Repr

/-- The closed list of refusal reasons (60_exceptions.md R240), and `notModelled`. Each is safe: where it is raised the
spec gives the hardware no behaviour. -/
inductive Refusal where
  /-- Raised by no arm of `exec`: every operation has its meaning. Safe. -/
  | notModelled (mnemonic : String)
  /-- Raised when an operation is issued from a context it may not run in (60_exceptions.md R231). Safe. -/
  | wrongContext
  /-- Raised by `BRISE`, `BFALL`, `STICK`, `FTICK` while their enabling condition is false (60_exceptions.md R225).
  Safe; the spec's own note D14 says that leaving out a late interrupt errs toward proving (log 15). -/
  | timerNotEnabled
  /-- Raised by `REL` while a generator or a timer runs (40_antenna.md R111). Safe. -/
  | releaseInFlight
  /-- Raised by `BEGIN` and `REQ` for a descriptor the antenna has not admitted (41_generator_interface.md R130).
  Safe. -/
  | notAdmitted
  /-- Raised by `BEGIN` and `REQ` while a generator or a timer runs (41_generator_interface.md R130). Safe. -/
  | alreadyBegun
  /-- Raised by `BEGIN` and `REQ` for an ill-formed or absent descriptor (41_generator_interface.md R130). Safe. -/
  | badDescriptor
  /-- Raised by any step whose rule would give a counter a value of `2^CTR_W` or more (10_state.md R53). Safe. -/
  | counterOverflow
  /-- Raised by `SCHED`, and by `TERM` through it, on a full queue (44_dispatcher.md R196). Safe. -/
  | queueFull
  /-- Raised by `BRISE` and `FTICK` for an index outside the descriptor (20_memory.md R71). Safe. -/
  | badIndex
  /-- Raised when a borrowed descriptor changes, is gone, or is of the other variant (20_memory.md R78). Safe. -/
  | descriptorMutated
  /-- Raised by the decoder for a word not in the table (30_encoding.md R97). Safe. -/
  | reservedOp
  /-- Raised by the decoder for a class `10` word presented from outside (30_encoding.md R94). Safe. -/
  | internalOnly
  /-- Raised when the configuration is not legal, or is set a second time or after the first request
  (60_exceptions.md R240; 70_reset_and_hazards.md R252 to R254; 93_implementation_defined.md U6; log 11). Safe. -/
  | badConfig
  deriving DecidableEq, Repr

/-- The state of the engine. The first six fields are the groups of 10_state.md R20 (`P` and `F` inside `gen`). -/
structure State where
  /-- Group `ANT`. -/
  ant : Antenna
  /-- `OUT`, the level of the output line (R25). -/
  out : Level
  /-- Groups `GEN`, `P` and `F` (R27 to R41). -/
  gen : Gen
  /-- Group `TMR`. -/
  tmr : Timers
  /-- `CQ`, the completion queue, head first (R47). -/
  cq : List Token
  /-- `LOG`, oldest event first (R46). -/
  log : List Event
  /-- The configuration, a parameter of the model (R48); no operation writes it. -/
  cfg : Params
  /-- The caller's table `SIGNALS` (40_antenna.md R114), a parameter (R48); no operation writes it. -/
  signals : List (Nat × TxRef)
  /-- Descriptor storage (20_memory.md R60), references strictly rising; no operation writes it (R69). -/
  store : List (TxRef × Descriptor)
  /-- The value the step just taken returned (00_scope.md R16). -/
  reply : Reply
  /-- What the outside presents next, first first (00_scope.md R14). -/
  inputs : List Input
  /-- Boot software has set the configuration, the hook slots and the signal table, or a request was made: they are
  fixed from then on (70_reset_and_hazards.md R252 to R254; 93_implementation_defined.md U6). No operation reads or
  writes it; a step that runs a request, and a boot, set it, and only a boot reads it. Log 11. -/
  bootClosed : Bool
  deriving DecidableEq, Repr

/-- The engine as constructed at start-up (10_state.md R49; 70_reset_and_hazards.md R250) for a configuration, a
signal table and a descriptor storage, with nothing presented. -/
def State.init (cfg : Params) (signals : List (Nat × TxRef)) (store : List (TxRef × Descriptor)) : State :=
  { ant := { busy := false, active := none, hookBegin := .empty, hookEnd := .empty }
    out := false
    gen := .invalid
    tmr := { baseOn := false, baseLevel := false, fixedOn := false }
    cq := []
    log := []
    cfg := cfg
    signals := signals
    store := store
    reply := .nothing
    inputs := []
    bootClosed := false }

/-- The machine right after reset (10_state.md R49), at the named configuration (log 4) and with empty signal table
and descriptor storage (logs 5 and 6). -/
def State.reset : State := State.init Config.atReset [] []

end Sys2Proof.Machine
end

