-- ==== Sys2Proof/Machine/Operands.lean ====
section
/-! DEFINITION. Every operand form: descriptor storage and its reads (20_memory.md R60 to R71), the signal table
(40_antenna.md R114), and the numeric codes (30_encoding.md R98, R99). -/

namespace Sys2Proof.Machine

/-! ### Descriptor storage: a list of (reference, descriptor), references strictly rising -/

/-- Every reference of the storage lies above `tx`. -/
def Memory.above (tx : TxRef) (m : List (TxRef × Descriptor)) : Bool :=
  m.all (fun c => decide (tx < c.1))

/-- The canonical form of descriptor storage: references strictly rising. An unlisted reference names no descriptor,
so no entry can equal what an unlisted one reads as. -/
def Memory.wf (m : List (TxRef × Descriptor)) : Bool :=
  match m with
  | [] => true
  | c :: rest => Memory.above c.1 rest && Memory.wf rest

/-- The descriptor a reference names; an unlisted reference names none (log 6). -/
def Memory.read (m : List (TxRef × Descriptor)) (tx : TxRef) : Option Descriptor :=
  match m with
  | [] => none
  | c :: rest => if c.1 = tx then some c.2 else Memory.read rest tx

/-- The storage without any entry for a reference. -/
def Memory.erase (m : List (TxRef × Descriptor)) (tx : TxRef) : List (TxRef × Descriptor) :=
  m.filter (fun c => decide (c.1 ≠ tx))

/-- The storage with an entry put in its place. -/
def Memory.insert (m : List (TxRef × Descriptor)) (tx : TxRef) (d : Descriptor) : List (TxRef × Descriptor) :=
  match m with
  | [] => [(tx, d)]
  | c :: rest => if tx < c.1 then (tx, d) :: c :: rest else c :: Memory.insert rest tx d

/-- The caller's write: `none` removes the descriptor. The engine itself never writes (20_memory.md R69). -/
def Memory.write (m : List (TxRef × Descriptor)) (tx : TxRef) (d : Option Descriptor) : List (TxRef × Descriptor) :=
  match d with
  | none => Memory.erase m tx
  | some d => Memory.insert (Memory.erase m tx) tx d

/-- The descriptor a reference names in a state (20_memory.md R60). -/
def readDescriptor (s : State) (tx : TxRef) : Option Descriptor := Memory.read s.store tx

/-- `WellFormed(tx)` of `BEGIN` (41_generator_interface.md R130). -/
def descriptorOk (d : Descriptor) : Bool := d.wellFormed

/-! ### Reads of a payload -/

/-- `CodeBit(tx, i)`, `0 <= i < tx.L` (20_memory.md R66); `none` outside the range or the sequence (R71). -/
def codeBit (q : PulsePayload) (i : Nat) : Option Nat :=
  if i < q.L then q.code[i]? else none

/-- `DataByte(tx, j)`, `0 <= j < tx.code_len` (20_memory.md R65); `none` outside the range or the buffer (R71). -/
def dataByte (q : FixedPayload) (j : Nat) : Option Byte :=
  if j < q.codeLen then q.data[j]? else none

/-- `DataBit(tx, i) = DataByte(tx, i div 8)[7 - (i mod 8)]` (30_encoding.md R90). -/
def dataBit (q : FixedPayload) (i : Nat) : Option Level :=
  (dataByte q (i / 8)).map (fun b => b.getLsbD (7 - i % 8))

/-- `n = 8 * tx.code_len`, the number of bit slots of one repetition (30_encoding.md R88). -/
def bitCount (q : FixedPayload) : Nat := 8 * q.codeLen

/-- The tick budget of a code bit (30_encoding.md R85; 42_pulse_code.md R153). -/
def tickBudget (c : Params) (b : Nat) : Nat := if b = 1 then c.askTicksOne else c.askTicksZero

/-! ### The signal table -/

/-- `SIGNALS(index)` (40_antenna.md R114): the first entry for the index, or none. -/
def lookupSignal (table : List (Nat × TxRef)) (index : Nat) : Option TxRef :=
  match table with
  | [] => none
  | e :: rest => if e.1 = index then some e.2 else lookupSignal rest index

/-! ### Numeric codes, where a number is needed -/

/-- The code of a tag (30_encoding.md R98). -/
def tagCode (t : GenTag) : Nat :=
  match t with
  | .invalid => 0
  | .pulse => 1
  | .fixed => 2

/-- The tag of a code; 3 is reserved (30_encoding.md R98). -/
def tagOfCode (n : Nat) : Option GenTag :=
  match n with
  | 0 => some .invalid
  | 1 => some .pulse
  | 2 => some .fixed
  | _ => none

/-- The tag a descriptor's variant gives the generator slot; never `Invalid` (30_encoding.md R98). -/
def variantTag (v : Variant) : GenTag :=
  match v with
  | .pulse => .pulse
  | .fixed => .fixed

/-- The code of an outcome (30_encoding.md R99); `BSY`'s bit and the absence of a result have none. -/
def replyCode (r : Reply) : Option Nat :=
  match r with
  | .admitted => some 0
  | .accepted => some 0
  | .ok => some 0
  | .rejectedBusy => some 1
  | .unknownSignal => some 2
  | .errHardwareFault => some 3
  | .failedHardwareFault => some 3
  | .nothing => none
  | .bit _ => none

/-- The code of a notification (30_encoding.md R99). -/
def notificationCode (n : Notification) : Nat :=
  match n with
  | .processing _ => 0
  | .busy _ => 1
  | .completed _ => 2
  | .unknownSignal _ => 3

end Sys2Proof.Machine
end

