-- ==== Sys2Proof/Machine/Flags.lean ====
section
/-! DEFINITION. Every condition an operation tests on the one-bit registers and the counters (10_state.md R51 to R54):
the enabling conditions of the interrupt events, the idle condition, the counter width. -/

namespace Sys2Proof.Machine

/-- Enabling condition of `BRISE` (42_pulse_code.md R150; 60_exceptions.md R221). -/
def briseEnabled (s : State) : Bool := s.gen.tag == .pulse && s.tmr.baseOn && !s.tmr.baseLevel

/-- Enabling condition of `BFALL` (42_pulse_code.md R155; 60_exceptions.md R222). -/
def bfallEnabled (s : State) : Bool := s.gen.tag == .pulse && s.tmr.baseOn && s.tmr.baseLevel

/-- Enabling condition of `STICK` (42_pulse_code.md R156; 60_exceptions.md R223). -/
def stickEnabled (s : State) : Bool := s.gen.tag == .pulse && s.tmr.baseOn

/-- Enabling condition of `FTICK` (43_fixed_code.md R180; 60_exceptions.md R224). -/
def ftickEnabled (s : State) : Bool := s.gen.tag == .fixed && s.tmr.fixedOn

/-- `GEN.tag = Invalid and TMR.base_on = 0 and TMR.fixed_on = 0`, the condition `REL` and `BEGIN` share
(40_antenna.md R111; 41_generator_interface.md R130). -/
def generatorIdle (s : State) : Bool := s.gen.tag == .invalid && !s.tmr.baseOn && !s.tmr.fixedOn

/-- The antenna has admitted this descriptor (41_generator_interface.md R130). -/
def admittedIs (s : State) (tx : TxRef) : Bool := s.ant.busy && decide (s.ant.active = some tx)

/-- A descriptor the engine holds: admitted, or borrowed by the running generator (20_memory.md R64). -/
def borrowed (s : State) (tx : TxRef) : Bool := decide (s.ant.active = some tx) || decide (s.gen.tx = some tx)

/-- Boot software may still configure the engine: it has not done so and no request was made
(70_reset_and_hazards.md R252 to R254). The engine is then as constructed; that it is, is tested as well, so that no
state whatever has its parameters changed under a transmission. -/
def bootOpen (s : State) : Bool :=
  !s.bootClosed && !s.ant.busy && generatorIdle s && s.cq.isEmpty && s.log.isEmpty

/-- A value fits a counter of `CTR_W` bits (10_state.md R52, R53). -/
def fits (c : Params) (v : Nat) : Bool :=
  match c.ctrW with
  | none => true
  | some w => decide (v < 2 ^ w)

/-- `SYNC_CYCLES + WAIT_CYCLES + (L + GAP_CYCLES) * k` (30_encoding.md R86; 42_pulse_code.md R154). -/
def repStart (c : Params) (L k : Nat) : Nat := c.syncCycles + c.waitCycles + (L + c.gapCycles) * k

/-- Every result of `repStart` fits a counter, intermediate results included (10_state.md R54). -/
def repStartFits (c : Params) (L k : Nat) : Bool :=
  fits c (c.syncCycles + c.waitCycles) && fits c (L + c.gapCycles) && fits c ((L + c.gapCycles) * k) &&
    fits c (repStart c L k)

end Sys2Proof.Machine
end

