-- ==== Sys2Proof/Machine/Ops.lean ====
section
/-! DEFINITION. The named operations over the registers that the meanings share: one writer per register group, the
antenna's admission and release, the generator's loading, the output latch, the dispatcher's primitives. The engine
takes no exception (60_exceptions.md R215, R229), so there is no exception entry and no return from one. -/

namespace Sys2Proof.Machine

/-- A step or part of one: its result, a fault or a refusal. -/
abbrev Run (α : Type) := Host.Outcome α Fault Refusal

/-- One operation after another within the same step: a fault or a refusal of the first ends the step. -/
def andThen {α β : Type} (x : Run α) (f : α → Run β) : Run β :=
  match x with
  | .next a => f a
  | .fault r => .fault r
  | .refused r => .refused r

/-! ### One writer per group of registers -/

def State.setAnt (s : State) (a : Antenna) : State := { s with ant := a }

/-- `OUT <- l` (41_generator_interface.md R134). -/
def State.setOut (s : State) (l : Level) : State := { s with out := l }

def State.setGen (s : State) (g : Gen) : State := { s with gen := g }

def State.setTmr (s : State) (t : Timers) : State := { s with tmr := t }

def State.setCq (s : State) (q : List Token) : State := { s with cq := q }

/-- `LOG <- LOG ++ [e]` (00_scope.md R18). -/
def State.addLog (s : State) (e : Event) : State := { s with log := s.log ++ [e] }

/-- `return v` (00_scope.md R18): the step's reply. -/
def State.setReply (s : State) (r : Reply) : State := { s with reply := r }

/-- The end of an operation without a result. -/
def finish (s : State) : Run State := .next (s.setReply .nothing)

/-! ### Registers that may hold no value -/

/-- Read group `P`; it holds a value only under the tag `Pulse` (10_state.md R27; 93_implementation_defined.md U1). -/
def withPulse (s : State) (f : TxRef → PulseRegs → Run State) : Run State :=
  match s.gen with
  | .pulse tx p => f tx p
  | .fixed _ _ => .fault .registerHoldsNoValue
  | .invalid => .fault .registerHoldsNoValue

/-- Read group `F`; it holds a value only under the tag `Fixed` (10_state.md R27; 93_implementation_defined.md U1). -/
def withFixed (s : State) (f : TxRef → FixedRegs → Run State) : Run State :=
  match s.gen with
  | .fixed tx r => f tx r
  | .pulse _ _ => .fault .registerHoldsNoValue
  | .invalid => .fault .registerHoldsNoValue

/-- Read the pulse-code payload of the borrowed descriptor. One that is gone or of the other variant has changed since
`BEGIN` read it (20_memory.md R64, R78). -/
def withPulsePayload (s : State) (tx : TxRef) (f : PulsePayload → Run State) : Run State :=
  match readDescriptor s tx with
  | some { name := _, payload := .pulse q } => f q
  | some { name := _, payload := .fixed _ } => .refused .descriptorMutated
  | none => .refused .descriptorMutated

/-- Read the fixed-code payload of the borrowed descriptor (20_memory.md R64, R78). -/
def withFixedPayload (s : State) (tx : TxRef) (f : FixedPayload → Run State) : Run State :=
  match readDescriptor s tx with
  | some { name := _, payload := .fixed q } => f q
  | some { name := _, payload := .pulse _ } => .refused .descriptorMutated
  | none => .refused .descriptorMutated

/-- `require fits(v) else refuse(CounterOverflow)` (10_state.md R53). -/
def requireFits (c : Params) (v : Nat) (k : Run State) : Run State :=
  if fits c v then k else .refused .counterOverflow

/-! ### The antenna -/

/-- What invoking a callback slot appends to the log: a filled one its event, an empty one nothing
(10_state.md R24). -/
def hookEvents (slot : Slot) (e : Event) : List Event :=
  match slot with
  | .empty => []
  | .filled => [e]

/-- Invoke a callback slot (10_state.md R24). -/
def invokeHook (slot : Slot) (e : Event) (s : State) : State := { s with log := s.log ++ hookEvents slot e }

/-- The admitting part of `ACQ` (40_antenna.md R110). -/
def takeAntenna (tx : TxRef) (s : State) : State :=
  invokeHook s.ant.hookBegin (.hookBegin tx) (s.setAnt { s.ant with busy := true, active := some tx })

/-- The freeing part of `REL` (40_antenna.md R111). -/
def free (s : State) : State :=
  invokeHook s.ant.hookEnd .hookEnd (s.setAnt { s.ant with busy := false, active := none })

/-- `REL` without its reply (40_antenna.md R111). -/
def release (s : State) : Run State :=
  if s.ant.busy then
    if generatorIdle s then .next (free s) else .refused .releaseInFlight
  else .next s

/-! ### The generator -/

/-- `LoadPulse(tx)` (41_generator_interface.md R131). -/
def loadPulse (tx : TxRef) (s : State) : Run State :=
  requireFits s.cfg (s.cfg.syncCycles + s.cfg.waitCycles) <|
    .next ((s.setGen (.pulse tx
      { c := 0, bitIdx := 0, oscRunning := false, oscBudget := 0, oscLevel := false,
        nextRepStart := s.cfg.syncCycles + s.cfg.waitCycles, repsSent := 0, terminated := false })).setTmr
      { s.tmr with baseLevel := false, baseOn := true })

/-- `LoadFixed(tx)` (41_generator_interface.md R132). -/
def loadFixed (tx : TxRef) (s : State) : Run State :=
  .next ((s.setGen (.fixed tx
    { t := 0, bitIdx := 0, repIdx := 0, nextRepStart := 0, terminated := false })).setTmr
    { s.tmr with fixedOn := true })

/-- The `case tx.variant` of `BEGIN` (41_generator_interface.md R130, R135). -/
def loadGenerator (tx : TxRef) (v : Variant) (s : State) : Run State :=
  match v with
  | .pulse => loadPulse tx s
  | .fixed => loadFixed tx s

/-- The descriptor check of `BEGIN`: absent or ill-formed is refused (41_generator_interface.md R130; log 7). -/
def withGoodDescriptor (s : State) (tx : TxRef) (f : Descriptor → Run State) : Run State :=
  match readDescriptor s tx with
  | some d => if descriptorOk d then f d else .refused .badDescriptor
  | none => .refused .badDescriptor

/-- `BEGIN` (41_generator_interface.md R130, R133); what follows on a hardware fault and on success is the caller's:
`BEGIN` itself or `REQ`. -/
def beginWith (tx : TxRef) (hwOk : Bool) (s : State) (onFault onOk : State → Run State) : Run State :=
  if admittedIs s tx then
    if generatorIdle s then
      withGoodDescriptor s tx fun d =>
        if hwOk then andThen (loadGenerator tx d.variant s) onOk else onFault s
    else .refused .alreadyBegun
  else .refused .notAdmitted

/-! ### The dispatcher -/

/-- `SCHED(fn, tx)` (44_dispatcher.md R196). -/
def schedule (k : Token) (s : State) : Run State :=
  if s.cq.length < s.cfg.cqDepth then .next (s.setCq (s.cq ++ [k])) else .refused .queueFull

/-- `TERM()` (44_dispatcher.md R195): test and set of the running generator's terminated flag, then `SCHED`. -/
def terminate (s : State) : Run State :=
  match s.gen with
  | .invalid => .fault .registerHoldsNoValue
  | .pulse tx p =>
    if p.terminated then .next s
    else schedule ⟨.cleanup, tx⟩ (s.setGen (.pulse tx { p with terminated := true }))
  | .fixed tx f =>
    if f.terminated then .next s
    else schedule ⟨.cleanup, tx⟩ (s.setGen (.fixed tx { f with terminated := true }))

/-- Steps 1 and 2 of `CLEANUP` (44_dispatcher.md R198): timers off, generator invalid. -/
def stopGenerator (s : State) : State :=
  (s.setTmr { baseOn := false, baseLevel := false, fixedOn := false }).setGen .invalid

/-- `CLEANUP(tx)` (44_dispatcher.md R198). -/
def cleanUp (tx : TxRef) (s : State) : Run State :=
  andThen (release (stopGenerator s)) fun s' => .next (s'.addLog (.notify (.completed tx)))

/-- `fn(tx)`: run a queued clean-up function (44_dispatcher.md R197). -/
def runCleanup (k : Token) (s : State) : Run State :=
  match k.fn with
  | .cleanup => cleanUp k.tx s

end Sys2Proof.Machine
end

