-- ==== Sys2Proof/Machine/Antenna.lean ====
section
/-! DEFINITION. The Antenna Resource Manager: `ACQ`, `REL`, `BSY`, `REQ`, `REQI` (40_antenna.md). -/

namespace Sys2Proof.Machine

/-- `ACQ tx` (40_antenna.md R110). -/
def execAcq (tx : TxRef) (s : State) : Run State :=
  if s.ant.busy then .next (s.setReply .rejectedBusy) else .next ((takeAntenna tx s).setReply .admitted)

/-- `REL` (40_antenna.md R111). -/
def execRel (s : State) : Run State := andThen (release s) finish

/-- `BSY` (40_antenna.md R112). -/
def execBsy (s : State) : Run State := .next (s.setReply (.bit s.ant.busy))

/-- The composite `REQ(tx, hw_ok)` (40_antenna.md R113). -/
def request (tx : TxRef) (hwOk : Bool) (s : State) : Run State :=
  if s.ant.busy then .next ((s.addLog (.notify (.busy tx))).setReply .rejectedBusy)
  else
    beginWith tx hwOk (takeAntenna tx s)
      (fun s' => andThen (release s') fun s'' => .next (s''.setReply .failedHardwareFault))
      (fun s' => .next ((s'.addLog (.notify (.processing tx))).setReply .accepted))

/-- `REQ tx, hw_ok` (40_antenna.md R113). -/
def execReq (tx : TxRef) (hwOk : Bool) (s : State) : Run State := request tx hwOk s

/-- `REQI index, hw_ok` (40_antenna.md R114): the look-up comes before admission. -/
def execReqi (index : Nat) (hwOk : Bool) (s : State) : Run State :=
  match lookupSignal s.signals index with
  | none => .next ((s.addLog (.notify (.unknownSignal index))).setReply .unknownSignal)
  | some tx => request tx hwOk s

end Sys2Proof.Machine
end

