-- ==== Sys2Proof/Machine/Dispatcher.lean ====
section
/-! DEFINITION. The Deferred Completion Dispatcher: `TERM`, `SCHED`, `DISPATCH`, `CLEANUP` (44_dispatcher.md). -/

namespace Sys2Proof.Machine

/-- `TERM` (44_dispatcher.md R195). -/
def execTerm (s : State) : Run State := andThen (terminate s) finish

/-- `SCHED fn, tx` (44_dispatcher.md R196). -/
def execSched (fn : CleanupFn) (tx : TxRef) (s : State) : Run State := andThen (schedule ⟨fn, tx⟩ s) finish

/-- `CLEANUP tx` (44_dispatcher.md R198). -/
def execCleanup (tx : TxRef) (s : State) : Run State := andThen (cleanUp tx s) finish

/-- `DISPATCH` (44_dispatcher.md R197). -/
def execDispatch (s : State) : Run State :=
  match s.cq with
  | [] => finish s
  | k :: rest => andThen (runCleanup k (s.setCq rest)) finish

end Sys2Proof.Machine
end

