-- ==== Sys2Proof/Machine/Fixed.lean ====
section
/-! DEFINITION. The Fixed-Code Generator: `FTICK` with its three branches (43_fixed_code.md). -/

namespace Sys2Proof.Machine

/-- Branch hold (43_fixed_code.md R181). -/
def branchHold (s : State) : Run State := .next (s.setOut false)

/-- The part of the repetition check in which another repetition follows (43_fixed_code.md R182): `F.t` is this
tick's number, before R184. -/
def nextFixedRep (tx : TxRef) (f : FixedRegs) (q : FixedPayload) (s : State) : Run State :=
  requireFits s.cfg (f.t + q.ticksBetween) <|
    .next (s.setGen (.fixed tx { f with nextRepStart := f.t + q.ticksBetween, bitIdx := 0 }))

/-- Branch repetition check (43_fixed_code.md R182). -/
def branchRepCheck (tx : TxRef) (f : FixedRegs) (q : FixedPayload) (s : State) : Run State :=
  requireFits s.cfg (f.repIdx + 1) <|
    if q.repetitions ≤ f.repIdx + 1 then
      terminate ((s.setOut false).setGen (.fixed tx { f with repIdx := f.repIdx + 1 }))
    else nextFixedRep tx { f with repIdx := f.repIdx + 1 } q (s.setOut false)

/-- Branch emit (43_fixed_code.md R183). -/
def branchEmit (tx : TxRef) (f : FixedRegs) (q : FixedPayload) (s : State) : Run State :=
  match dataBit q f.bitIdx with
  | none => .refused .badIndex
  | some l =>
    requireFits s.cfg (f.bitIdx + 1) <|
      .next ((s.setOut l).setGen (.fixed tx { f with bitIdx := f.bitIdx + 1 }))

/-- The branch of a tick (43_fixed_code.md R180): the tests in the order of the rule. -/
def tickBranch (tx : TxRef) (f : FixedRegs) (s : State) : Run State :=
  if f.t < f.nextRepStart then branchHold s
  else withFixedPayload s tx fun q =>
    if f.bitIdx = bitCount q then branchRepCheck tx f q s else branchEmit tx f q s

/-- `F.t <- F.t + 1` at the end of every tick (43_fixed_code.md R184). -/
def advanceTick (s : State) : Run State :=
  withFixed s fun tx f =>
    requireFits s.cfg (f.t + 1) <| finish (s.setGen (.fixed tx { f with t := f.t + 1 }))

/-- `FTICK` (43_fixed_code.md R180). -/
def execFtick (s : State) : Run State :=
  if ftickEnabled s then andThen (withFixed s fun tx f => tickBranch tx f s) advanceTick
  else .refused .timerNotEnabled

end Sys2Proof.Machine
end

