-- ==== Sys2Proof/Machine/Generator.lean ====
section
/-! DEFINITION. The Transmission Generator Interface: `BEGIN` and `SETOUT` (41_generator_interface.md). -/

namespace Sys2Proof.Machine

/-- `BEGIN tx, hw_ok` (41_generator_interface.md R130 to R133). -/
def execBegin (tx : TxRef) (hwOk : Bool) (s : State) : Run State :=
  beginWith tx hwOk s (fun s' => .next (s'.setReply .errHardwareFault)) (fun s' => .next (s'.setReply .ok))

/-- `SETOUT l` (41_generator_interface.md R134). -/
def execSetout (l : Level) (s : State) : Run State := finish (s.setOut l)

end Sys2Proof.Machine
end

