-- ==== Sys2Proof/Machine/Pulse.lean ====
section
/-! DEFINITION. The Pulse-Code Generator: `BRISE` with its four stages, `BFALL`, `STICK` (42_pulse_code.md). -/

namespace Sys2Proof.Machine

/-- Stage SYNC (42_pulse_code.md R151). -/
def stageSync (s : State) : Run State := .next (s.setOut true)

/-- Stage WAIT (42_pulse_code.md R152). -/
def stageWait (s : State) : Run State := .next (s.setOut false)

/-- Stage CODE (42_pulse_code.md R153): consume a code bit and start the oscillator; `OUT` is not written. -/
def stageCode (tx : TxRef) (p : PulseRegs) (q : PulsePayload) (s : State) : Run State :=
  match codeBit q p.bitIdx with
  | none => .refused .badIndex
  | some b =>
    requireFits s.cfg (p.bitIdx + 1) <| requireFits s.cfg (tickBudget s.cfg b) <|
      .next (s.setGen (.pulse tx
        { p with bitIdx := p.bitIdx + 1, oscBudget := tickBudget s.cfg b, oscLevel := false, oscRunning := true }))

/-- The branch of stage REPEAT-CHECK in which another repetition follows (42_pulse_code.md R154): the formula uses
`P.reps_sent` after the increment. -/
def nextPulseRep (tx : TxRef) (p : PulseRegs) (q : PulsePayload) (s : State) : Run State :=
  if repStartFits s.cfg q.L p.repsSent then
    .next (s.setGen (.pulse tx { p with bitIdx := 0, nextRepStart := repStart s.cfg q.L p.repsSent }))
  else .refused .counterOverflow

/-- Stage REPEAT-CHECK (42_pulse_code.md R154). -/
def stageRepeatCheck (tx : TxRef) (p : PulseRegs) (q : PulsePayload) (s : State) : Run State :=
  requireFits s.cfg (p.repsSent + 1) <|
    if q.R ≤ p.repsSent + 1 then
      terminate ((s.setGen (.pulse tx { p with repsSent := p.repsSent + 1 })).setOut false)
    else nextPulseRep tx { p with repsSent := p.repsSent + 1 } q s

/-- The stage of a base-clock rising edge (42_pulse_code.md R150): the four tests in the order of the rule. -/
def riseStage (tx : TxRef) (p : PulseRegs) (s : State) : Run State :=
  if p.c < s.cfg.syncCycles then stageSync s
  else if p.c < p.nextRepStart then stageWait s
  else withPulsePayload s tx fun q =>
    if p.bitIdx < q.L then stageCode tx p q s else stageRepeatCheck tx p q s

/-- `TMR.base_level <- l`, the last write of `BRISE` and `BFALL`. -/
def setBaseLevel (l : Level) (s : State) : State := s.setTmr { s.tmr with baseLevel := l }

/-- `BRISE` (42_pulse_code.md R150). -/
def execBrise (s : State) : Run State :=
  if briseEnabled s then
    andThen (withPulse s fun tx p => riseStage tx p s) fun s' => finish (setBaseLevel true s')
  else .refused .timerNotEnabled

/-- `BFALL` (42_pulse_code.md R155). -/
def execBfall (s : State) : Run State :=
  if bfallEnabled s then
    withPulse s fun tx p =>
      requireFits s.cfg (p.c + 1) <|
        finish (setBaseLevel false ((s.setGen (.pulse tx
          { p with oscRunning := false, oscLevel := false, c := p.c + 1 })).setOut false))
  else .refused .timerNotEnabled

/-- The running oscillator's tick (42_pulse_code.md R156): exhausted, or flip and re-arm. -/
def oscTick (tx : TxRef) (p : PulseRegs) (s : State) : State :=
  if p.oscBudget = 0 then
    (s.setGen (.pulse tx { p with oscLevel := false, oscRunning := false })).setOut false
  else
    (s.setGen (.pulse tx { p with oscBudget := p.oscBudget - 1, oscLevel := !p.oscLevel })).setOut (!p.oscLevel)

/-- `STICK` (42_pulse_code.md R156). -/
def execStick (s : State) : Run State :=
  if stickEnabled s then
    withPulse s fun tx p => if p.oscRunning then finish (oscTick tx p s) else finish s
  else .refused .timerNotEnabled

end Sys2Proof.Machine
end

