-- ==== Sys2Proof/Machine/Dispatch.lean ====
section
/-! DEFINITION. One arm per operation of the opcode table. -/

namespace Sys2Proof.Machine

def exec (i : Instr) (s : State) : Host.Outcome State Fault Refusal :=
  match i with
  | .acq tx => Sys2Proof.Machine.execAcq tx s
  | .rel => Sys2Proof.Machine.execRel s
  | .bsy => Sys2Proof.Machine.execBsy s
  | .begin tx hwOk => Sys2Proof.Machine.execBegin tx hwOk s
  | .dispatch => Sys2Proof.Machine.execDispatch s
  | .req tx hwOk => Sys2Proof.Machine.execReq tx hwOk s
  | .reqi index hwOk => Sys2Proof.Machine.execReqi index hwOk s
  | .brise => Sys2Proof.Machine.execBrise s
  | .bfall => Sys2Proof.Machine.execBfall s
  | .stick => Sys2Proof.Machine.execStick s
  | .ftick => Sys2Proof.Machine.execFtick s
  | .setout l => Sys2Proof.Machine.execSetout l s
  | .term => Sys2Proof.Machine.execTerm s
  | .sched fn tx => Sys2Proof.Machine.execSched fn tx s
  | .cleanup tx => Sys2Proof.Machine.execCleanup tx s

end Sys2Proof.Machine
end

