-- ==== Sys2Proof/Machine/Issue.lean ====
section
/-! DEFINITION. What stands before an operation's meaning: the configuration check, the decoder and the context check
of a presented word, the mark a request leaves; and the two things the outside does that are not operations, writing a descriptor and booting. -/

namespace Sys2Proof.Machine

/-- The two contexts (60_exceptions.md R231). -/
inductive Context where
  | task
  | interrupt
  deriving DecidableEq, Repr

/-- Presented from outside the engine (30_encoding.md R94). -/
def originOutside (o : Origin) : Bool :=
  match o with
  | .software => true
  | .timer => true
  | .insideTask => false
  | .insideHandler => false

/-- The context a word is presented in: a timer's callback and what runs inside it are interrupt context
(60_exceptions.md R231). -/
def originContext (o : Origin) : Context :=
  match o with
  | .software => .task
  | .insideTask => .task
  | .timer => .interrupt
  | .insideHandler => .interrupt

/-- The table of contexts (60_exceptions.md R231). A class `00` command runs in task context, a class `01` event is
presented by its timer and by nothing else, `SETOUT`, `TERM` and `SCHED` run inside a handler, `CLEANUP` inside a task
operation. DEDUCED where the table names no reason, log 10. -/
def contextOk (o : Origin) (i : Instr) : Bool :=
  match i with
  | .acq _ | .rel | .bsy | .begin _ _ | .dispatch | .req _ _ | .reqi _ _ => decide (originContext o = .task)
  | .brise | .bfall | .stick | .ftick => decide (o = .timer)
  | .setout _ | .term | .sched _ _ => decide (originContext o = .interrupt)
  | .cleanup _ => decide (originContext o = .task)

/-- The refusal a decode error is (60_exceptions.md R240). -/
def refusalOf (e : DecodeError) : Refusal :=
  match e with
  | .reservedOp => .reservedOp
  | .internalOnly => .internalOnly

/-- The operation a presented word is, or why it is refused before its meaning: illegal configuration
(60_exceptions.md R240), the decoder (30_encoding.md R94, R97), the context (60_exceptions.md R231). -/
def issue (o : Origin) (w : OpWord) (a : Operands) (s : State) : Except Refusal Instr :=
  if s.cfg.legal then
    match decode (originOutside o) w a with
    | .error e => .error (refusalOf e)
    | .ok i => if contextOk o i then .ok i else .error .wrongContext
  else .error .badConfig

/-- The caller writes or removes a descriptor. A borrowed one may not change (20_memory.md R64, R78). Log 20. -/
def writeDescriptor (tx : TxRef) (d : Option Descriptor) (s : State) : Run State :=
  if borrowed s tx && decide (readDescriptor s tx ≠ d) then .refused .descriptorMutated
  else finish { s with store := Memory.write s.store tx d }

/-- A request for the antenna or the generator: with the first of these the configuration is fixed
(70_reset_and_hazards.md R252 to R254; 93_implementation_defined.md U6). Log 11. -/
def isRequest (i : Instr) : Bool :=
  match i with
  | .acq _ | .begin _ _ | .req _ _ | .reqi _ _ => true
  | .rel | .bsy | .dispatch => false
  | .brise | .bfall | .stick | .ftick => false
  | .setout _ | .term | .sched _ _ | .cleanup _ => false

/-- What a step does around an operation's meaning: record that a request was made. -/
def noteRequest (i : Instr) (s : State) : State := { s with bootClosed := s.bootClosed || isRequest i }

/-- Boot software sets configuration, hook slots and signal table: once, before the first request
(70_reset_and_hazards.md R252 to R254; 93_implementation_defined.md U6). Log 11. -/
def bootWith (b : Boot) (s : State) : Run State :=
  if b.cfg.legal && bootOpen s then
    finish { s with
      cfg := b.cfg
      ant := { s.ant with hookBegin := b.hookBegin, hookEnd := b.hookEnd }
      signals := b.signals
      bootClosed := true }
  else .refused .badConfig

/-- The origin that presents a class's words to a running engine: what `withFetchWord` sets (log 9). -/
def usualOrigin (i : Instr) : Origin :=
  match i with
  | .acq _ | .rel | .bsy | .begin _ _ | .dispatch | .req _ _ | .reqi _ _ => .software
  | .brise | .bfall | .stick | .ftick => .timer
  | .setout _ | .term | .sched _ _ => .insideHandler
  | .cleanup _ => .insideTask

/-- The input that presents a table word as the very next thing, its operands zero. A word the decoder refuses is
presented by software. -/
def presentWord (nbits w : Nat) : Input :=
  match decodeTableWord nbits w with
  | some i => .operation (usualOrigin i) (BitVec.ofNat 8 w) Operands.zero
  | none => .operation .software (BitVec.ofNat 8 w) Operands.zero

end Sys2Proof.Machine
end

