-- ==== Sys2Proof/Machine/Step.lean ====
section
/-! DEFINITION. One step of the machine: take what the outside presents next and run it (00_scope.md R14, R15). -/

namespace Sys2Proof.Machine

/-- One step. With nothing presented the engine idles: no operation runs and nothing changes (log 2). -/
def step (s : State) : Host.Outcome State Fault Refusal :=
  match s.inputs with
  | [] => .next s
  | x :: rest =>
    match x with
    | .operation o w a =>
      match issue o w a s with
      | .ok i => exec i (noteRequest i { s with inputs := rest })
      | .error r => .refused r
    | .descriptor tx d => writeDescriptor tx d { s with inputs := rest }
    | .boot b => bootWith b { s with inputs := rest }

/-- `s` with a word of the opcode table presented next, before anything already presented (log 1). -/
def State.withFetchWord (s : State) (nbits w : Nat) : State :=
  { s with inputs := presentWord nbits w :: s.inputs }

end Sys2Proof.Machine
end

