-- ==== Sys2Proof/Safety.lean ====
section
/-! DEFINITION. The terms claims are stated in: the line code as the spec tabulates it (30_encoding.md R80 to R91), runs
of several operations, and the invariant of the machine. -/

namespace Sys2Proof.Safety

open Sys2Proof Sys2Proof.Machine

/-! ### Runs -/

/-- The operations of a list, one after another. -/
def runOps (is : List Instr) (s : State) : Run State :=
  match is with
  | [] => .next s
  | i :: rest => andThen (exec i s) (runOps rest)

/-- `CYCLE(n)`: a rise, `n` sub-carrier ticks, a fall (30_encoding.md R101). -/
def cycle (n : Nat) : List Instr := .brise :: (List.replicate n .stick ++ [.bfall])

/-- One `CYCLE` per element (30_encoding.md R101). -/
def cycles (ns : List Nat) : List Instr :=
  match ns with
  | [] => []
  | n :: rest => cycle n ++ cycles rest

/-! ### The line code of the pulse-code generator -/

/-- First cycle that is neither sync nor leading wait: `s(0)` (30_encoding.md R80). -/
def codeStart (c : Params) : Nat := c.syncCycles + c.waitCycles

/-- Cycles from one repetition's start to the next: `L + max(GAP_CYCLES, 1)` (30_encoding.md R80;
42_pulse_code.md R164). -/
def pulsePeriod (c : Params) (q : PulsePayload) : Nat := q.L + max c.gapCycles 1

/-- The cycle whose rising edge first calls `TERM` (42_pulse_code.md R165). -/
def pulseEnd (c : Params) (q : PulsePayload) : Nat := codeStart c + pulsePeriod c q * (q.R - 1) + q.L

/-- What a cycle's high phase carries (30_encoding.md R80 to R84). -/
inductive Symbol where
  | sync
  | low
  | bit (b : Nat)
  deriving DecidableEq, Repr

/-- The frame table (30_encoding.md R80): the symbol of cycle `n`; every cycle after the frame is low (R91). -/
def pulseSymbol (c : Params) (q : PulsePayload) (n : Nat) : Symbol :=
  if n < c.syncCycles then .sync
  else if n < codeStart c then .low
  else if (n - codeStart c) / pulsePeriod c q < q.R then
    match codeBit q ((n - codeStart c) % pulsePeriod c q) with
    | some b => .bit b
    | none => .low
  else .low

/-- The level of `OUT` in the high phase of a symbol after `j` sub-carrier ticks (30_encoding.md R82 to R84). -/
def symbolLevel (c : Params) (y : Symbol) (j : Nat) : Level :=
  match y with
  | .sync => true
  | .low => false
  | .bit b => decide (j ≤ tickBudget c b ∧ j % 2 = 1)

/-! ### The line code of the fixed-code generator -/

/-- Ticks from one repetition's start to the next: `n + max(ticks_between_repetitions, 1)` (30_encoding.md R88). -/
def fixedPeriod (q : FixedPayload) : Nat := bitCount q + max q.ticksBetween 1

/-- The tick that first calls `TERM` (43_fixed_code.md R186). -/
def fixedEnd (q : FixedPayload) : Nat := fixedPeriod q * (q.repetitions - 1) + bitCount q

/-- The frame table (30_encoding.md R88): the level of `OUT` from tick `t` to the next; 0 after the frame (R91). -/
def fixedLevel (q : FixedPayload) (t : Nat) : Level :=
  if t / fixedPeriod q < q.repetitions then (dataBit q (t % fixedPeriod q)).getD false else false

/-! ### The invariant -/

/-- An input of the outside: not a call made inside a running operation (30_encoding.md R94). -/
def fromOutside (x : Input) : Bool :=
  match x with
  | .operation o _ _ => originOutside o
  | .descriptor _ _ => true
  | .boot _ => true

/-- Rising edges handled since `BEGIN`: `P.c`, and one more in a high phase (10_state.md R29, R43). -/
def edges (s : State) (p : PulseRegs) : Nat := p.c + s.tmr.baseLevel.toNat

/-- The queue of a running generator: one token once it has terminated, none before (44_dispatcher.md R195, R202). -/
def tokensOf (tx : TxRef) (terminated : Bool) : List Token := if terminated then [⟨.cleanup, tx⟩] else []

/-- Where a running pulse-code generator stands in its frame, and what that makes of the output line
(10_state.md R29 to R36; 42_pulse_code.md R150 to R165). -/
structure PulseOk (s : State) (q : PulsePayload) (p : PulseRegs) : Prop where
  wellFormed : q.wellFormed = true
  /-- 10_state.md R30. -/
  bitIdx_le : p.bitIdx ≤ q.L
  /-- 10_state.md R32. -/
  budget_le : p.oscBudget ≤ s.cfg.askTicksOne
  /-- 42_pulse_code.md R157: during every low phase the line is low and the oscillator stopped. -/
  low_phase : s.tmr.baseLevel = false → s.out = false ∧ p.oscRunning = false
  /-- 42_pulse_code.md R160. -/
  high_phase : s.tmr.baseLevel = true → s.out = (decide (p.c < s.cfg.syncCycles) || p.oscLevel)
  /-- 10_state.md R33. -/
  level_running : p.oscRunning = false → p.oscLevel = false
  /-- 42_pulse_code.md R153, R156: a running oscillator is sending the bit just consumed. -/
  burst : p.oscRunning = true → p.terminated = false ∧ codeStart s.cfg ≤ p.c ∧ 0 < p.bitIdx ∧
    ∃ b, codeBit q (p.bitIdx - 1) = some b ∧ p.oscBudget ≤ tickBudget s.cfg b ∧
      p.oscLevel = decide ((tickBudget s.cfg b - p.oscBudget) % 2 = 1)
  /-- 42_pulse_code.md R154, before termination. -/
  running_reps : p.terminated = false → p.repsSent < q.R ∧ p.nextRepStart = repStart s.cfg q.L p.repsSent
  /-- 30_encoding.md R80: bits are consumed one a cycle. -/
  running_bits : p.terminated = false → 0 < p.bitIdx →
    edges s p = codeStart s.cfg + pulsePeriod s.cfg q * p.repsSent + p.bitIdx
  /-- 30_encoding.md R80: preamble, waits and gaps. -/
  running_gap : p.terminated = false → p.bitIdx = 0 →
    edges s p ≤ codeStart s.cfg + pulsePeriod s.cfg q * p.repsSent ∧
    (0 < p.repsSent → codeStart s.cfg + pulsePeriod s.cfg q * (p.repsSent - 1) + q.L < edges s p)
  /-- 42_pulse_code.md R163, R165: after termination. -/
  ended : p.terminated = true → q.R ≤ p.repsSent ∧ p.bitIdx = q.L ∧
    p.nextRepStart = repStart s.cfg q.L (q.R - 1) ∧ edges s p + q.R = pulseEnd s.cfg q + 1 + p.repsSent

/-- Where a running fixed-code generator stands in its frame (10_state.md R37 to R41; 43_fixed_code.md R180 to R187). -/
structure FixedOk (s : State) (q : FixedPayload) (f : FixedRegs) : Prop where
  wellFormed : q.wellFormed = true
  /-- 10_state.md R38. -/
  bitIdx_le : f.bitIdx ≤ bitCount q
  /-- 30_encoding.md R88, R89: between ticks the line holds the level of the last tick; it is 0 before the first. -/
  level : s.out = if f.t = 0 then false else fixedLevel q (f.t - 1)
  /-- 43_fixed_code.md R182, before termination. -/
  running_reps : f.terminated = false → f.repIdx < q.repetitions ∧
    f.nextRepStart = if f.repIdx = 0 then 0 else fixedPeriod q * (f.repIdx - 1) + bitCount q + q.ticksBetween
  /-- 30_encoding.md R88: bits are emitted one a tick. -/
  running_bits : f.terminated = false → 0 < f.bitIdx → f.t = fixedPeriod q * f.repIdx + f.bitIdx
  /-- 30_encoding.md R88: gaps. -/
  running_gap : f.terminated = false → f.bitIdx = 0 → f.t ≤ fixedPeriod q * f.repIdx ∧
    (0 < f.repIdx → fixedPeriod q * (f.repIdx - 1) + bitCount q < f.t)
  /-- 43_fixed_code.md R185, R186: after termination. -/
  ended : f.terminated = true → q.repetitions ≤ f.repIdx ∧ f.bitIdx = bitCount q ∧ f.nextRepStart < f.t ∧
    f.t + q.repetitions = fixedEnd q + 1 + f.repIdx

/-- The generator slot, its timer, its token and its descriptor belong together (10_state.md R26, R43, R45;
44_dispatcher.md R202). -/
def GenOk (s : State) : Prop :=
  match s.gen with
  | .invalid => s.tmr = ⟨false, false, false⟩ ∧ s.cq = [] ∧ s.out = false
  | .pulse tx p => s.ant.busy = true ∧ s.ant.active = some tx ∧ s.tmr.baseOn = true ∧ s.tmr.fixedOn = false ∧
      s.cq = tokensOf tx p.terminated ∧
      ∃ name q, readDescriptor s tx = some ⟨name, .pulse q⟩ ∧ PulseOk s q p
  | .fixed tx f => s.ant.busy = true ∧ s.ant.active = some tx ∧ s.tmr.baseOn = false ∧ s.tmr.baseLevel = false ∧
      s.tmr.fixedOn = true ∧ s.cq = tokensOf tx f.terminated ∧
      ∃ name q, readDescriptor s tx = some ⟨name, .fixed q⟩ ∧ FixedOk s q f

/-- The invariant of the machine: legal configuration (00_scope.md R9, R12), canonical descriptor storage, the
antenna's two registers tied (10_state.md R23), the generator slot in order, and no trace of a request while boot
software may still configure the engine. -/
structure Inv (s : State) : Prop where
  legal : s.cfg.legal = true
  store_wf : Memory.wf s.store = true
  /-- 10_state.md R23. -/
  antenna : s.ant.busy = s.ant.active.isSome
  gen : GenOk s
  /-- 70_reset_and_hazards.md R252 to R254. -/
  boot_first : s.bootClosed = false → s.ant.busy = false ∧ s.log = []

/-- The outside presents no internal primitive (30_encoding.md R94). -/
def OutsideOnly (s : State) : Prop := ∀ x ∈ s.inputs, fromOutside x = true

/-- Every counter is below `2^CTR_W` (10_state.md R52). -/
def CountersFit (s : State) : Prop :=
  match s.gen with
  | .invalid => True
  | .pulse _ p => fits s.cfg p.c = true ∧ fits s.cfg p.bitIdx = true ∧ fits s.cfg p.oscBudget = true ∧
      fits s.cfg p.nextRepStart = true ∧ fits s.cfg p.repsSent = true
  | .fixed _ f => fits s.cfg f.t = true ∧ fits s.cfg f.bitIdx = true ∧ fits s.cfg f.repIdx = true ∧
      fits s.cfg f.nextRepStart = true

end Sys2Proof.Safety
end

