-- ==== Sys2Proof/Certificates/Slice0/Obligations.lean ====
section
/-! DEFINITION. The statements for the provers. Each docstring names the rules of spec/ it formalises, and the choices
of the model it rests on. A result statement gives the whole next state, so it is also the operation's frame: what the
record update does not name is unchanged. -/

open Sys2Proof Sys2Proof.Machine Sys2Proof.Safety

/-! ### Encoding, decoding, presenting -/

/-- 30_encoding.md R93, R95, R96 (the spec's own words, D18): every operation's word and operands decode to it, from
outside too unless it is an internal primitive; and whatever a word decodes to is encoded by that word. -/
def Obligations.EncodeAndDecodeAgree : Prop :=
  (∀ i : Instr, decode false (encode i).1 (encode i).2 = .ok i) ∧
  (∀ i : Instr, opClassOf i ≠ .primitive → decode true (encode i).1 (encode i).2 = .ok i) ∧
  (∀ (outside : Bool) (w : OpWord) (a : Operands) (i : Instr), decode outside w a = .ok i →
    (encode i).1 = w ∧ decode outside w (encode i).2 = .ok i)

/-- 30_encoding.md R94, R97 (D18): exactly the words outside the table are reserved, a step that meets one refuses it,
and a class `10` word of the table presented from outside is refused `InternalOnly`. -/
def Obligations.ReservedAndInternalWordsAreRefused : Prop :=
  (∀ (outside : Bool) (w : OpWord) (a : Operands),
    decode outside w a = .error .reservedOp ↔
      (0x07 ≤ w.toNat ∧ w.toNat ≤ 0x3F) ∨ (0x44 ≤ w.toNat ∧ w.toNat ≤ 0x7F) ∨ 0x85 ≤ w.toNat) ∧
  (∀ (s : State) (o : Origin) (w : OpWord) (a : Operands) (rest : List Input),
    s.inputs = .operation o w a :: rest → s.cfg.legal = true →
    (decode (originOutside o) w a = .error .reservedOp → step s = .refused .reservedOp) ∧
    (originOutside o = true → 0x80 ≤ w.toNat → w.toNat ≤ 0x84 → step s = .refused .internalOnly))

/-- 30_encoding.md R95, a few words written out; a sanity statement. -/
def Obligations.WrittenOutWordsDecode : Prop :=
  decodeTableWord 8 0b00000000 = some (.acq 0) ∧
  decodeTableWord 8 0b00000110 = some (.reqi 0 false) ∧
  decodeTableWord 8 0b01000010 = some .stick ∧
  decodeTableWord 8 0b10000001 = some (.setout true) ∧
  decodeTableWord 8 0b10000100 = some (.cleanup 0) ∧
  decodeTableWord 8 0b11000000 = none

/-- 00_scope.md R14, R15; 30_encoding.md R94; 60_exceptions.md R231: when the word presented next decodes to an
operation its context may run, the step is that operation on the state without the input taken and with the mark of a
request (`ACQ`, `BEGIN`, `REQ`, `REQI`). That the schedule and that mark stand in the state is the model's choice, logs
1 and 11. -/
def Obligations.StepRunsPresentedOperation : Prop :=
  ∀ (s : State) (o : Origin) (w : OpWord) (a : Operands) (rest : List Input) (i : Instr),
    s.inputs = .operation o w a :: rest → s.cfg.legal = true →
    decode (originOutside o) w a = .ok i → contextOk o i = true →
    step s = exec i { s with inputs := rest, bootClosed := s.bootClosed || isRequest i }

/-- 40_antenna.md R115; 60_exceptions.md R231: a command presented in interrupt context is refused `WrongContext`, and
so are `TERM` and `SCHED` inside a task operation and `CLEANUP` inside a handler. That an event word not presented by
its timer, and `SETOUT` inside a task operation, are refused `WrongContext` too is the model's choice, log 10. -/
def Obligations.WrongContextIsRefused : Prop :=
  ∀ (s : State) (o : Origin) (i : Instr) (rest : List Input),
    s.inputs = .operation o (encode i).1 (encode i).2 :: rest → s.cfg.legal = true →
    (opClassOf i = .task → o = .timer ∨ o = .insideHandler → step s = .refused .wrongContext) ∧
    (i = .term ∨ (∃ fn tx, i = .sched fn tx) → o = .insideTask → step s = .refused .wrongContext) ∧
    ((∃ tx, i = .cleanup tx) → o = .insideHandler → step s = .refused .wrongContext) ∧
    (opClassOf i = .event → o ≠ .timer → step s = .refused .wrongContext) ∧
    ((∃ l, i = .setout l) → o = .insideTask → step s = .refused .wrongContext)

/-- 00_scope.md R9, R12; 60_exceptions.md R240: with `ASK_TICKS_ONE <= ASK_TICKS_ZERO` or `CQ_DEPTH = 0` every
presented word is refused `BadConfig` (that it is refused at each step is the model's choice, log 12). -/
def Obligations.IllegalConfigurationIsRefused : Prop :=
  ∀ (s : State) (o : Origin) (w : OpWord) (a : Operands) (rest : List Input),
    s.inputs = .operation o w a :: rest →
    s.cfg.askTicksOne ≤ s.cfg.askTicksZero ∨ s.cfg.cqDepth = 0 → step s = .refused .badConfig

/-- 70_reset_and_hazards.md R252 to R254; 93_implementation_defined.md U6 (D16): boot software sets configuration, hook
slots and signal table once, before the first request; every request closes that, and no step opens it again or changes
them afterwards. How boot reaches the engine, which operations are requests, and the refusal of a second boot are the
model's choice, log 11. -/
def Obligations.BootSetsConfigurationBeforeRequests : Prop :=
  (∀ (s : State) (b : Boot) (rest : List Input), s.inputs = .boot b :: rest →
    (b.cfg.legal = true → s.bootClosed = false → s.ant.busy = false → s.gen = .invalid → s.tmr.baseOn = false →
      s.tmr.fixedOn = false → s.cq = [] → s.log = [] →
      step s = .next { s with
        cfg := b.cfg, signals := b.signals, reply := .nothing, inputs := rest, bootClosed := true,
        ant := { s.ant with hookBegin := b.hookBegin, hookEnd := b.hookEnd } }) ∧
    (b.cfg.legal = true → s.bootClosed = false → Inv s → ∃ t, step s = .next t) ∧
    (b.cfg.legal = false ∨ s.bootClosed = true ∨ s.log ≠ [] ∨ s.ant.busy = true → step s = .refused .badConfig)) ∧
  (∀ (s t : State) (o : Origin) (i : Instr) (rest : List Input),
    s.inputs = .operation o (encode i).1 (encode i).2 :: rest →
    (∃ tx, i = .acq tx) ∨ (∃ tx hw, i = .begin tx hw) ∨ (∃ tx hw, i = .req tx hw) ∨ (∃ n hw, i = .reqi n hw) →
    step s = .next t → t.bootClosed = true) ∧
  (∀ s t : State, step s = .next t → s.bootClosed = true →
    t.bootClosed = true ∧ t.cfg = s.cfg ∧ t.signals = s.signals ∧
    t.ant.hookBegin = s.ant.hookBegin ∧ t.ant.hookEnd = s.ant.hookEnd)

/-- 20_memory.md R64, R78; 70_reset_and_hazards.md R258: a change of a borrowed descriptor is refused
`DescriptorMutated`. That the caller may change any other descriptor between steps is the model's choice, log 20. -/
def Obligations.BorrowedDescriptorCannotChange : Prop :=
  ∀ (s : State) (tx : TxRef) (d : Option Descriptor) (rest : List Input), s.inputs = .descriptor tx d :: rest →
    (s.ant.active = some tx ∨ s.gen.tx = some tx → readDescriptor s tx ≠ d → step s = .refused .descriptorMutated) ∧
    (s.ant.active ≠ some tx → s.gen.tx ≠ some tx → ∃ t, step s = .next t ∧
      t = { s with store := t.store, reply := .nothing, inputs := rest } ∧
      readDescriptor t tx = d ∧ ∀ a, a ≠ tx → readDescriptor t a = readDescriptor s a)

/-! ### The antenna -/

/-- 40_antenna.md R110; 10_state.md R24: `ACQ` admits iff the antenna is free. -/
def Obligations.AcquireAdmitsOnlyAFreeAntenna : Prop :=
  ∀ (s : State) (tx : TxRef),
    (s.ant.busy = false → exec (.acq tx) s = .next { s with
      ant := { s.ant with busy := true, active := some tx }
      log := s.log ++ (if s.ant.hookBegin = .filled then [.hookBegin tx] else [])
      reply := .admitted }) ∧
    (s.ant.busy = true → exec (.acq tx) s = .next { s with reply := .rejectedBusy })

/-- 40_antenna.md R111: `REL` frees an idle antenna, does nothing to a free one, and is refused while a generator or a
timer runs (the refusal is the spec's own decision D24). -/
def Obligations.ReleaseFreesAnIdleAntenna : Prop :=
  ∀ s : State,
    (s.ant.busy = false → exec .rel s = .next { s with reply := .nothing }) ∧
    (s.ant.busy = true → s.gen = .invalid → s.tmr.baseOn = false → s.tmr.fixedOn = false →
      exec .rel s = .next { s with
        ant := { s.ant with busy := false, active := none }
        log := s.log ++ (if s.ant.hookEnd = .filled then [.hookEnd] else [])
        reply := .nothing }) ∧
    (s.ant.busy = true → s.gen ≠ .invalid ∨ s.tmr.baseOn = true ∨ s.tmr.fixedOn = true →
      exec .rel s = .refused .releaseInFlight)

/-- 40_antenna.md R112: `BSY` returns `ANT.busy` and writes nothing. -/
def Obligations.BusyQueryReturnsTheBusyBit : Prop :=
  ∀ s : State, exec .bsy s = .next { s with reply := .bit s.ant.busy }

/-- 40_antenna.md R117: no operation replaces the active transmission while the antenna stays busy, a second `ACQ` is
never admitted, and a release of a free antenna is a no-op. -/
def Obligations.NoSecondTransmissionIsAdmitted : Prop :=
  (∀ (s : State) (tx : TxRef), s.ant.busy = true → exec (.acq tx) s = .next { s with reply := .rejectedBusy }) ∧
  (∀ (i : Instr) (s t : State), s.ant.busy = true → exec i s = .next t →
    t.ant.busy = false ∨ t.ant.active = s.ant.active) ∧
  (∀ s : State, s.ant.busy = false → exec .rel s = .next { s with reply := .nothing })

/-- 40_antenna.md R113, R114 with 41_generator_interface.md R131, R132 (D15, D3, D4): an accepted `REQ`, and an accepted
`REQI` of an index the signal table knows. -/
def Obligations.RequestAcceptedLoadsTheGenerator : Prop :=
  ∀ (s : State) (tx : TxRef) (i : Instr),
    i = .req tx true ∨ (∃ n, i = .reqi n true ∧ lookupSignal s.signals n = some tx) →
    s.ant.busy = false → s.gen = .invalid → s.tmr.baseOn = false → s.tmr.fixedOn = false →
    (∀ name q, readDescriptor s tx = some ⟨name, .pulse q⟩ → q.wellFormed = true →
      fits s.cfg (s.cfg.syncCycles + s.cfg.waitCycles) = true →
      exec i s = .next { s with
        ant := { s.ant with busy := true, active := some tx }
        gen := .pulse tx { c := 0, bitIdx := 0, oscRunning := false, oscBudget := 0, oscLevel := false,
                           nextRepStart := s.cfg.syncCycles + s.cfg.waitCycles, repsSent := 0, terminated := false }
        tmr := { baseOn := true, baseLevel := false, fixedOn := false }
        log := s.log ++ (if s.ant.hookBegin = .filled then [.hookBegin tx] else []) ++ [.notify (.processing tx)]
        reply := .accepted }) ∧
    (∀ name q, readDescriptor s tx = some ⟨name, .fixed q⟩ → q.wellFormed = true →
      exec i s = .next { s with
        ant := { s.ant with busy := true, active := some tx }
        gen := .fixed tx { t := 0, bitIdx := 0, repIdx := 0, nextRepStart := 0, terminated := false }
        tmr := { s.tmr with fixedOn := true }
        log := s.log ++ (if s.ant.hookBegin = .filled then [.hookBegin tx] else []) ++ [.notify (.processing tx)]
        reply := .accepted })

/-- 40_antenna.md R113, R116; 41_generator_interface.md R133 (D15): a `REQ` turned away by a busy antenna changes only
the log; one whose set-up fails leaves the antenna free; one whose descriptor is ill-formed is refused. That an absent
descriptor is refused like an ill-formed one is the model's choice, log 7. -/
def Obligations.RequestBusyFaultAndBadDescriptor : Prop :=
  ∀ (s : State) (tx : TxRef) (hw : Bool),
    (s.ant.busy = true → exec (.req tx hw) s = .next { s with
      log := s.log ++ [.notify (.busy tx)], reply := .rejectedBusy }) ∧
    (s.ant.busy = false → s.gen = .invalid → s.tmr.baseOn = false → s.tmr.fixedOn = false →
      (∀ d, readDescriptor s tx = some d → d.wellFormed = true → exec (.req tx false) s = .next { s with
        ant := { s.ant with busy := false, active := none }
        log := s.log ++ (if s.ant.hookBegin = .filled then [.hookBegin tx] else []) ++
          (if s.ant.hookEnd = .filled then [.hookEnd] else [])
        reply := .failedHardwareFault }) ∧
      ((∀ d, readDescriptor s tx = some d → d.wellFormed = false) →
        exec (.req tx hw) s = .refused .badDescriptor))

/-- 30_encoding.md R102; 40_antenna.md R113 (D15, D27): `REQ` is `ACQ`, then `BEGIN`, then on a fault `REL`, with its
notifications. -/
def Obligations.RequestIsAcquireBeginRelease : Prop :=
  ∀ (s a b : State) (tx : TxRef) (hw : Bool), exec (.acq tx) s = .next a →
    (a.reply = .rejectedBusy → exec (.req tx hw) s = .next { a with log := a.log ++ [.notify (.busy tx)] }) ∧
    (a.reply = .admitted → exec (.begin tx hw) a = .next b → b.reply = .ok →
      exec (.req tx hw) s = .next { b with log := b.log ++ [.notify (.processing tx)], reply := .accepted }) ∧
    (a.reply = .admitted → exec (.begin tx hw) a = .next b → b.reply = .errHardwareFault →
      ∃ r, exec .rel b = .next r ∧ exec (.req tx hw) s = .next { r with reply := .failedHardwareFault }) ∧
    (∀ r, a.reply = .admitted → exec (.begin tx hw) a = .refused r → exec (.req tx hw) s = .refused r)

/-- 40_antenna.md R114 (D31): an unknown index is reported and changes nothing but the log, even while busy; a known
one is the `REQ` of its descriptor. -/
def Obligations.RequestByIndexLooksUpFirst : Prop :=
  ∀ (s : State) (index : Nat) (hw : Bool),
    (lookupSignal s.signals index = none → exec (.reqi index hw) s = .next { s with
      log := s.log ++ [.notify (.unknownSignal index)], reply := .unknownSignal }) ∧
    (∀ tx, lookupSignal s.signals index = some tx → exec (.reqi index hw) s = exec (.req tx hw) s)

/-! ### The generator interface -/

/-- 41_generator_interface.md R130, R131, R132 (D3, D4): a successful `BEGIN`. -/
def Obligations.BeginLoadsTheGenerator : Prop :=
  ∀ (s : State) (tx : TxRef), s.ant.busy = true → s.ant.active = some tx →
    s.gen = .invalid → s.tmr.baseOn = false → s.tmr.fixedOn = false →
    (∀ name q, readDescriptor s tx = some ⟨name, .pulse q⟩ → q.wellFormed = true →
      fits s.cfg (s.cfg.syncCycles + s.cfg.waitCycles) = true →
      exec (.begin tx true) s = .next { s with
        gen := .pulse tx { c := 0, bitIdx := 0, oscRunning := false, oscBudget := 0, oscLevel := false,
                           nextRepStart := s.cfg.syncCycles + s.cfg.waitCycles, repsSent := 0, terminated := false }
        tmr := { baseOn := true, baseLevel := false, fixedOn := false }
        reply := .ok }) ∧
    (∀ name q, readDescriptor s tx = some ⟨name, .fixed q⟩ → q.wellFormed = true →
      exec (.begin tx true) s = .next { s with
        gen := .fixed tx { t := 0, bitIdx := 0, repIdx := 0, nextRepStart := 0, terminated := false }
        tmr := { s.tmr with fixedOn := true }
        reply := .ok })

/-- 41_generator_interface.md R130, R133 (D6, D20, D21, D24): the refusals of `BEGIN` in their order, and a failed
set-up, which writes nothing. That an absent descriptor is refused like an ill-formed one is the model's choice,
log 7. -/
def Obligations.BeginRefusalsAndHardwareFault : Prop :=
  ∀ (s : State) (tx : TxRef) (hw : Bool),
    (s.ant.busy = false ∨ s.ant.active ≠ some tx → exec (.begin tx hw) s = .refused .notAdmitted) ∧
    (s.ant.busy = true → s.ant.active = some tx →
      (s.gen ≠ .invalid ∨ s.tmr.baseOn = true ∨ s.tmr.fixedOn = true →
        exec (.begin tx hw) s = .refused .alreadyBegun) ∧
      (s.gen = .invalid → s.tmr.baseOn = false → s.tmr.fixedOn = false →
        ((∀ d, readDescriptor s tx = some d → d.wellFormed = false) →
          exec (.begin tx hw) s = .refused .badDescriptor) ∧
        (∀ d, readDescriptor s tx = some d → d.wellFormed = true →
          exec (.begin tx false) s = .next { s with reply := .errHardwareFault })))

/-- 41_generator_interface.md R134: `SETOUT l` drives the line to `l` and writes nothing else. -/
def Obligations.SetOutputDrivesTheLine : Prop :=
  ∀ (s : State) (l : Level), exec (.setout l) s = .next { s with out := l, reply := .nothing }

/-! ### The pulse-code generator -/

/-- 42_pulse_code.md R151 (in the stage order of R150): the SYNC stage raises the line and writes no other register
(`TMR.base_level` is `BRISE`'s own); with the sub-carrier stopped, any number of its ticks then does nothing, and the
fall of the cycle drives the line low. -/
def Obligations.RiseInSyncStageHoldsHigh : Prop :=
  ∀ (s : State) (tx : TxRef) (p : PulseRegs), s.gen = .pulse tx p → s.tmr.baseOn = true → s.tmr.baseLevel = false →
    p.c < s.cfg.syncCycles →
    exec .brise s = .next { s with out := true, tmr := { s.tmr with baseLevel := true }, reply := .nothing } ∧
    (p.oscRunning = false → ∀ n : Nat,
      runOps (.brise :: List.replicate n .stick) s = exec .brise s ∧
      (fits s.cfg (p.c + 1) = true →
        ∃ t, runOps (.brise :: (List.replicate n .stick ++ [.bfall])) s = .next t ∧ t.out = false))

/-- 42_pulse_code.md R150, R152: the WAIT stage. -/
def Obligations.RiseInWaitStageHoldsLow : Prop :=
  ∀ (s : State) (tx : TxRef) (p : PulseRegs), s.gen = .pulse tx p → s.tmr.baseOn = true → s.tmr.baseLevel = false →
    s.cfg.syncCycles ≤ p.c → p.c < p.nextRepStart →
    exec .brise s = .next { s with out := false, tmr := { s.tmr with baseLevel := true }, reply := .nothing }

/-- 42_pulse_code.md R150, R153; 30_encoding.md R85 (D7): the CODE stage. -/
def Obligations.RiseInCodeStageStartsABurst : Prop :=
  ∀ (s : State) (tx : TxRef) (p : PulseRegs) (name : String) (q : PulsePayload) (b : Nat),
    s.gen = .pulse tx p → s.tmr.baseOn = true → s.tmr.baseLevel = false →
    s.cfg.syncCycles ≤ p.c → p.nextRepStart ≤ p.c → readDescriptor s tx = some ⟨name, .pulse q⟩ →
    p.bitIdx < q.L → q.code[p.bitIdx]? = some b → b ≤ 1 →
    fits s.cfg (p.bitIdx + 1) = true → fits s.cfg s.cfg.askTicksOne = true → s.cfg.askTicksZero < s.cfg.askTicksOne →
    exec .brise s = .next { s with
      gen := .pulse tx { p with
        bitIdx := p.bitIdx + 1
        oscBudget := if b = 1 then s.cfg.askTicksOne else s.cfg.askTicksZero
        oscLevel := false
        oscRunning := true }
      tmr := { s.tmr with baseLevel := true }
      reply := .nothing }

/-- 42_pulse_code.md R150, R154; 30_encoding.md R86: REPEAT-CHECK with another repetition to follow. -/
def Obligations.RepeatCheckStartsTheNextRepetition : Prop :=
  ∀ (s : State) (tx : TxRef) (p : PulseRegs) (name : String) (q : PulsePayload),
    s.gen = .pulse tx p → s.tmr.baseOn = true → s.tmr.baseLevel = false →
    s.cfg.syncCycles ≤ p.c → p.nextRepStart ≤ p.c → readDescriptor s tx = some ⟨name, .pulse q⟩ →
    q.L ≤ p.bitIdx → p.repsSent + 1 < q.R → fits s.cfg (p.repsSent + 1) = true →
    fits s.cfg (s.cfg.syncCycles + s.cfg.waitCycles + (q.L + s.cfg.gapCycles) * (p.repsSent + 1)) = true →
    exec .brise s = .next { s with
      gen := .pulse tx { p with
        repsSent := p.repsSent + 1
        bitIdx := 0
        nextRepStart := s.cfg.syncCycles + s.cfg.waitCycles + (q.L + s.cfg.gapCycles) * (p.repsSent + 1) }
      tmr := { s.tmr with baseLevel := true }
      reply := .nothing }

/-- 42_pulse_code.md R150, R154; 44_dispatcher.md R195, R196 (D5): REPEAT-CHECK when the repetition count is reached,
the first time and on trailing cycles. -/
def Obligations.RepeatCheckTerminatesOnce : Prop :=
  ∀ (s : State) (tx : TxRef) (p : PulseRegs) (name : String) (q : PulsePayload),
    s.gen = .pulse tx p → s.tmr.baseOn = true → s.tmr.baseLevel = false →
    s.cfg.syncCycles ≤ p.c → p.nextRepStart ≤ p.c → readDescriptor s tx = some ⟨name, .pulse q⟩ →
    q.L ≤ p.bitIdx → q.R ≤ p.repsSent + 1 → fits s.cfg (p.repsSent + 1) = true →
    (p.terminated = false → s.cq.length < s.cfg.cqDepth) →
    exec .brise s = .next { s with
      out := false
      gen := .pulse tx { p with repsSent := p.repsSent + 1, terminated := true }
      tmr := { s.tmr with baseLevel := true }
      cq := if p.terminated then s.cq else s.cq ++ [⟨.cleanup, tx⟩]
      reply := .nothing }

/-- 42_pulse_code.md R155 (D9): the base-clock falling edge, in every stage. -/
def Obligations.FallStopsTheOscillatorAndCounts : Prop :=
  ∀ (s : State) (tx : TxRef) (p : PulseRegs), s.gen = .pulse tx p → s.tmr.baseOn = true → s.tmr.baseLevel = true →
    fits s.cfg (p.c + 1) = true →
    exec .bfall s = .next { s with
      out := false
      gen := .pulse tx { p with oscRunning := false, oscLevel := false, c := p.c + 1 }
      tmr := { s.tmr with baseLevel := false }
      reply := .nothing }

/-- 42_pulse_code.md R156 (D8): a sub-carrier tick with the oscillator stopped, exhausted, and with budget left. -/
def Obligations.SubCarrierTickFlipsOrStops : Prop :=
  ∀ (s : State) (tx : TxRef) (p : PulseRegs), s.gen = .pulse tx p → s.tmr.baseOn = true →
    (p.oscRunning = false → exec .stick s = .next { s with reply := .nothing }) ∧
    (p.oscRunning = true → p.oscBudget = 0 → exec .stick s = .next { s with
      out := false, gen := .pulse tx { p with oscLevel := false, oscRunning := false }, reply := .nothing }) ∧
    (∀ b, p.oscRunning = true → p.oscBudget = b + 1 → exec .stick s = .next { s with
      out := !p.oscLevel, gen := .pulse tx { p with oscBudget := b, oscLevel := !p.oscLevel }, reply := .nothing })

/-- 60_exceptions.md R225; 42_pulse_code.md R150, R155, R156; 43_fixed_code.md R180 (D14): an interrupt event whose
enabling condition is false is refused `TimerNotEnabled`. -/
def Obligations.DisabledEventsAreRefused : Prop :=
  ∀ s : State,
    (s.gen.tag ≠ .pulse ∨ s.tmr.baseOn = false ∨ s.tmr.baseLevel = true → exec .brise s = .refused .timerNotEnabled) ∧
    (s.gen.tag ≠ .pulse ∨ s.tmr.baseOn = false ∨ s.tmr.baseLevel = false → exec .bfall s = .refused .timerNotEnabled) ∧
    (s.gen.tag ≠ .pulse ∨ s.tmr.baseOn = false → exec .stick s = .refused .timerNotEnabled) ∧
    (s.gen.tag ≠ .fixed ∨ s.tmr.fixedOn = false → exec .ftick s = .refused .timerNotEnabled)

/-- 42_pulse_code.md R158; 60_exceptions.md R228: a sub-carrier tick and a falling edge due together, in either order,
both end with the line low and the oscillator stopped, and agree on everything but the budget left over. -/
def Obligations.TickAndFallInEitherOrder : Prop :=
  ∀ (s : State) (tx : TxRef) (p : PulseRegs), s.gen = .pulse tx p → s.tmr.baseOn = true → s.tmr.baseLevel = true →
    fits s.cfg (p.c + 1) = true →
    ∃ (t u : State) (x y : PulseRegs),
      runOps [.stick, .bfall] s = .next t ∧ runOps [.bfall, .stick] s = .next u ∧
      t.gen = .pulse tx x ∧ u.gen = .pulse tx y ∧ t.out = false ∧ u.out = false ∧
      x.oscRunning = false ∧ y.oscRunning = false ∧ x = { y with oscBudget := x.oscBudget } ∧
      t = { u with gen := t.gen }

/-- 42_pulse_code.md R157, R160: an interrupt event of the pulse-code generator raises the line only in stage SYNC or by
a flip of the running oscillator; and in every state of the invariant the line is high only during the high phase of a
sync cycle or of a code cycle whose oscillator is running at level 1. -/
def Obligations.LineIsHighOnlyInSyncOrBurst : Prop :=
  (∀ (i : Instr) (s t : State) (tx : TxRef) (p : PulseRegs), opClassOf i = .event → s.gen = .pulse tx p →
    exec i s = .next t → s.out = false → t.out = true →
    (i = .brise ∧ p.c < s.cfg.syncCycles) ∨
    (i = .stick ∧ p.oscRunning = true ∧ 0 < p.oscBudget ∧ p.oscLevel = false)) ∧
  (∀ (s : State) (tx : TxRef) (p : PulseRegs), Inv s → s.gen = .pulse tx p → s.out = true →
    s.tmr.baseLevel = true ∧
    ((p.c < s.cfg.syncCycles ∧ p.oscRunning = false) ∨
      (s.cfg.syncCycles ≤ p.c ∧ p.oscRunning = true ∧ p.oscLevel = true ∧ p.terminated = false)))

/-- 42_pulse_code.md R159: forward only. -/
def Obligations.PulseRegistersOnlyMoveForward : Prop :=
  ∀ (i : Instr) (s t : State) (tx tx' : TxRef) (p p' : PulseRegs), Inv s → exec i s = .next t →
    s.gen = .pulse tx p → t.gen = .pulse tx' p' →
    p.c ≤ p'.c ∧ p.repsSent ≤ p'.repsSent ∧ p.nextRepStart ≤ p'.nextRepStart ∧
    (p'.bitIdx < p.bitIdx → i = .brise ∧ p'.bitIdx = 0 ∧
      ∃ name q, readDescriptor s tx = some ⟨name, .pulse q⟩ ∧ p.bitIdx = q.L) ∧
    (p.terminated = true → p'.terminated = true)

/-- 42_pulse_code.md R162, R163; 60_exceptions.md R219: after termination no trailing rise, fall or tick raises the
line, queues or logs anything, and only `P.c`, `P.reps_sent` and `TMR.base_level` change. -/
def Obligations.TrailingPulseEventsAreHarmless : Prop :=
  ∀ (i : Instr) (s t : State) (tx : TxRef) (p : PulseRegs), Inv s → s.gen = .pulse tx p → p.terminated = true →
    opClassOf i = .event → exec i s = .next t →
    s.out = false ∧ ∃ c n l, t = { s with
      gen := .pulse tx { p with c := c, repsSent := n }
      tmr := { s.tmr with baseLevel := l }
      reply := .nothing }

/-- 42_pulse_code.md R165: the rising edge that first terminates is that of cycle
`SYNC_CYCLES + WAIT_CYCLES + (L + max(GAP_CYCLES, 1)) * (R - 1) + L`. -/
def Obligations.PulseTerminatesAtItsLastCycle : Prop :=
  ∀ (s t : State) (tx : TxRef) (p p' : PulseRegs) (name : String) (q : PulsePayload), Inv s →
    s.gen = .pulse tx p → readDescriptor s tx = some ⟨name, .pulse q⟩ →
    exec .brise s = .next t → t.gen = .pulse tx p' → p.terminated = false →
    (p'.terminated = true ↔
      p.c = s.cfg.syncCycles + s.cfg.waitCycles + (q.L + max s.cfg.gapCycles 1) * (q.R - 1) + q.L)

/-! ### The fixed-code generator -/

/-- 30_encoding.md R90; 20_memory.md R65: bytes ascending, most significant bit first; nothing beyond the buffer. -/
def Obligations.DataBitsComeMostSignificantFirst : Prop :=
  ∀ (q : FixedPayload) (i : Nat), q.wellFormed = true →
    (i < 8 * q.codeLen → ∃ b, q.data[i / 8]? = some b ∧ dataBit q i = some (b.getLsbD (7 - i % 8))) ∧
    (8 * q.codeLen ≤ i → dataBit q i = none)

/-- 43_fixed_code.md R180, R183, R184 (D10): the emit branch. -/
def Obligations.TickEmitsTheNextBit : Prop :=
  ∀ (s : State) (tx : TxRef) (f : FixedRegs) (name : String) (q : FixedPayload),
    s.gen = .fixed tx f → s.tmr.fixedOn = true → f.nextRepStart ≤ f.t →
    readDescriptor s tx = some ⟨name, .fixed q⟩ → q.codeLen = q.data.length → f.bitIdx < 8 * q.codeLen →
    fits s.cfg (f.bitIdx + 1) = true → fits s.cfg (f.t + 1) = true →
    ∃ b, q.data[f.bitIdx / 8]? = some b ∧ exec .ftick s = .next { s with
      out := b.getLsbD (7 - f.bitIdx % 8)
      gen := .fixed tx { f with bitIdx := f.bitIdx + 1, t := f.t + 1 }
      reply := .nothing }

/-- 43_fixed_code.md R180, R181, R184 (D10): the hold branch. -/
def Obligations.TickHoldsTheLineLow : Prop :=
  ∀ (s : State) (tx : TxRef) (f : FixedRegs), s.gen = .fixed tx f → s.tmr.fixedOn = true → f.t < f.nextRepStart →
    fits s.cfg (f.t + 1) = true →
    exec .ftick s = .next { s with out := false, gen := .fixed tx { f with t := f.t + 1 }, reply := .nothing }

/-- 43_fixed_code.md R180, R182, R184; 44_dispatcher.md R195, R196 (D5, D10): the repetition check, with another
repetition to follow and with the count reached, the first time and on trailing ticks. -/
def Obligations.TickChecksTheRepetition : Prop :=
  ∀ (s : State) (tx : TxRef) (f : FixedRegs) (name : String) (q : FixedPayload),
    s.gen = .fixed tx f → s.tmr.fixedOn = true → f.nextRepStart ≤ f.t →
    readDescriptor s tx = some ⟨name, .fixed q⟩ → f.bitIdx = 8 * q.codeLen →
    fits s.cfg (f.repIdx + 1) = true → fits s.cfg (f.t + 1) = true →
    (f.repIdx + 1 < q.repetitions → fits s.cfg (f.t + q.ticksBetween) = true → exec .ftick s = .next { s with
      out := false
      gen := .fixed tx { f with
        repIdx := f.repIdx + 1, bitIdx := 0, nextRepStart := f.t + q.ticksBetween, t := f.t + 1 }
      reply := .nothing }) ∧
    (q.repetitions ≤ f.repIdx + 1 → (f.terminated = false → s.cq.length < s.cfg.cqDepth) →
      exec .ftick s = .next { s with
        out := false
        gen := .fixed tx { f with repIdx := f.repIdx + 1, terminated := true, t := f.t + 1 }
        cq := if f.terminated then s.cq else s.cq ++ [⟨.cleanup, tx⟩]
        reply := .nothing })

/-- 43_fixed_code.md R188: forward only. -/
def Obligations.FixedRegistersOnlyMoveForward : Prop :=
  ∀ (i : Instr) (s t : State) (tx tx' : TxRef) (f f' : FixedRegs), Inv s → exec i s = .next t →
    s.gen = .fixed tx f → t.gen = .fixed tx' f' →
    f.t ≤ f'.t ∧ f.repIdx ≤ f'.repIdx ∧ f.nextRepStart ≤ f'.nextRepStart ∧
    (f'.bitIdx < f.bitIdx → i = .ftick ∧ f'.bitIdx = 0 ∧
      ∃ name q, readDescriptor s tx = some ⟨name, .fixed q⟩ ∧ f.bitIdx = 8 * q.codeLen) ∧
    (f.terminated = true → f'.terminated = true)

/-- 43_fixed_code.md R185: a trailing tick raises nothing, queues and logs nothing. -/
def Obligations.TrailingFixedTicksAreHarmless : Prop :=
  ∀ (i : Instr) (s t : State) (tx : TxRef) (f : FixedRegs), Inv s → s.gen = .fixed tx f → f.terminated = true →
    opClassOf i = .event → exec i s = .next t →
    s.out = false ∧ t = { s with
      gen := .fixed tx { f with t := f.t + 1, repIdx := f.repIdx + 1 }, reply := .nothing }

/-- 43_fixed_code.md R186: the tick that first terminates is number
`(n + max(ticks_between_repetitions, 1)) * (repetitions - 1) + n`. -/
def Obligations.FixedTerminatesAtItsLastTick : Prop :=
  ∀ (s t : State) (tx : TxRef) (f f' : FixedRegs) (name : String) (q : FixedPayload), Inv s →
    s.gen = .fixed tx f → readDescriptor s tx = some ⟨name, .fixed q⟩ →
    exec .ftick s = .next t → t.gen = .fixed tx f' → f.terminated = false →
    (f'.terminated = true ↔
      f.t = (8 * q.codeLen + max q.ticksBetween 1) * (q.repetitions - 1) + 8 * q.codeLen)

/-! ### The dispatcher -/

/-- 44_dispatcher.md R195; 60_exceptions.md R219: the first `TERM` sets the flag and queues one token; a second one
does nothing. -/
def Obligations.TerminateSetsTheFlagOnce : Prop :=
  (∀ (s : State) (tx : TxRef) (p : PulseRegs), s.gen = .pulse tx p →
    (p.terminated = false → s.cq.length < s.cfg.cqDepth → exec .term s = .next { s with
      gen := .pulse tx { p with terminated := true }, cq := s.cq ++ [⟨.cleanup, tx⟩], reply := .nothing }) ∧
    (p.terminated = true → exec .term s = .next { s with reply := .nothing })) ∧
  (∀ (s : State) (tx : TxRef) (f : FixedRegs), s.gen = .fixed tx f →
    (f.terminated = false → s.cq.length < s.cfg.cqDepth → exec .term s = .next { s with
      gen := .fixed tx { f with terminated := true }, cq := s.cq ++ [⟨.cleanup, tx⟩], reply := .nothing }) ∧
    (f.terminated = true → exec .term s = .next { s with reply := .nothing }))

/-- 10_state.md R27; 93_implementation_defined.md U1: with the tag `Invalid` the terminated flag holds no value, and a
`TERM` that would read it is a fault (the fault is the model's reading, log 8). -/
def Obligations.TerminateWithoutAGeneratorFaults : Prop :=
  ∀ s : State, s.gen = .invalid → exec .term s = .fault .registerHoldsNoValue

/-- 44_dispatcher.md R196 (D12): `SCHED` appends its token at the tail, or is refused by a full queue. -/
def Obligations.ScheduleAppendsAToken : Prop :=
  ∀ (s : State) (fn : CleanupFn) (tx : TxRef),
    (s.cq.length < s.cfg.cqDepth → exec (.sched fn tx) s = .next { s with
      cq := s.cq ++ [⟨fn, tx⟩], reply := .nothing }) ∧
    (s.cfg.cqDepth ≤ s.cq.length → exec (.sched fn tx) s = .refused .queueFull)

/-- 44_dispatcher.md R198 (D13): `CLEANUP` in any state. -/
def Obligations.CleanupStopsReleasesAndNotifies : Prop :=
  ∀ (s : State) (tx : TxRef), exec (.cleanup tx) s = .next { s with
    ant := if s.ant.busy then { s.ant with busy := false, active := none } else s.ant
    gen := .invalid
    tmr := { baseOn := false, baseLevel := false, fixedOn := false }
    log := s.log ++ (if s.ant.busy = true ∧ s.ant.hookEnd = .filled then [.hookEnd] else []) ++
      [.notify (.completed tx)]
    reply := .nothing }

/-- 44_dispatcher.md R197 (D13, D34): `DISPATCH` does nothing to an empty queue, and otherwise removes the head and
runs its clean-up. -/
def Obligations.DispatchRunsTheOldestCleanup : Prop :=
  ∀ s : State,
    (s.cq = [] → exec .dispatch s = .next { s with reply := .nothing }) ∧
    (∀ fn tx rest, s.cq = ⟨fn, tx⟩ :: rest →
      exec .dispatch s = exec (.cleanup tx) { s with cq := rest } ∧
      exec .dispatch s = .next { s with
        ant := if s.ant.busy then { s.ant with busy := false, active := none } else s.ant
        gen := .invalid
        tmr := { baseOn := false, baseLevel := false, fixedOn := false }
        cq := rest
        log := s.log ++ (if s.ant.busy = true ∧ s.ant.hookEnd = .filled then [.hookEnd] else []) ++
          [.notify (.completed tx)]
        reply := .nothing })

/-- 44_dispatcher.md R200; 20_memory.md R77: from the first `TERM` to the `DISPATCH` the antenna is busy, every `ACQ`
is rejected, no `BEGIN` is legal, and no other operation frees the antenna or empties the queue. -/
def Obligations.AntennaStaysBusyUntilDispatch : Prop :=
  ∀ s : State, Inv s → s.cq ≠ [] →
    s.ant.busy = true ∧
    (∀ tx, exec (.acq tx) s = .next { s with reply := .rejectedBusy }) ∧
    (∀ tx hw, exec (.begin tx hw) s = .refused .notAdmitted ∨ exec (.begin tx hw) s = .refused .alreadyBegun) ∧
    (exec .rel s = .refused .releaseInFlight) ∧
    (∀ i t, opClassOf i ≠ .primitive → i ≠ .dispatch → exec i s = .next t → t.ant = s.ant ∧ t.cq = s.cq)

/-- 44_dispatcher.md R202; 10_state.md R26: at most one token, and only of the running generator's descriptor; at most
one generator, and only of the admitted descriptor. -/
def Obligations.OneTokenAndOneGeneratorAtMost : Prop :=
  ∀ s : State, Inv s →
    s.cq.length ≤ 1 ∧ (∀ k ∈ s.cq, s.gen.tx = some k.tx) ∧
    (s.gen ≠ .invalid → s.ant.busy = true ∧ s.gen.tx = s.ant.active) ∧
    ¬ (s.tmr.baseOn = true ∧ s.tmr.fixedOn = true)

/-- 70_reset_and_hazards.md R250; 30_encoding.md R91: the `DISPATCH` of a terminated transmission leaves the state
`State.init` constructs, but for the log, the hook slots, what the outside has yet to present, and that a request was
made (log 11). -/
def Obligations.DispatchRestoresTheIdleState : Prop :=
  ∀ (s : State) (tx : TxRef), Inv s → s.cq ≠ [] → s.gen.tx = some tx →
    exec .dispatch s = .next { State.init s.cfg s.signals s.store with
      ant := { busy := false, active := none, hookBegin := s.ant.hookBegin, hookEnd := s.ant.hookEnd }
      log := s.log ++ (if s.ant.hookEnd = .filled then [.hookEnd] else []) ++ [.notify (.completed tx)]
      inputs := s.inputs
      bootClosed := true }

/-! ### The whole machine -/

/-- 10_state.md R49; 70_reset_and_hazards.md R250 (D17): what reset leaves in the groups of R20; and boot software may
still configure the engine (log 11). -/
def Obligations.ResetLeavesTheEngineIdle : Prop :=
  State.reset.ant = { busy := false, active := none, hookBegin := .empty, hookEnd := .empty } ∧
  State.reset.out = false ∧ State.reset.gen = .invalid ∧ State.reset.gen.tx = none ∧
  State.reset.tmr = { baseOn := false, baseLevel := false, fixedOn := false } ∧
  State.reset.cq = [] ∧ State.reset.log = [] ∧ State.reset.bootClosed = false

/-- The invariant holds at reset (with the configuration of log 4) and at every other legal construction of the
engine. -/
def Obligations.InvariantHoldsAtReset : Prop :=
  Inv State.reset ∧ OutsideOnly State.reset ∧
  ∀ (cfg : Params) (signals : List (Nat × TxRef)) (store : List (TxRef × Descriptor)),
    cfg.legal = true → Memory.wf store = true → Inv (State.init cfg signals store)

/-- 10_state.md R23, R26, R30 to R38; 30_encoding.md R80, R88, R89, R91; 42_pulse_code.md R157, R163;
44_dispatcher.md R202; for the last clause of the invariant 70_reset_and_hazards.md R252 to R254 and log 11: whatever the outside presents, other than a call of its own making inside an operation (logs 1
and 9), a step keeps the invariant. -/
def Obligations.InvariantIsKeptByEveryStep : Prop :=
  ∀ s t : State, Inv s → OutsideOnly s → step s = .next t → Inv t ∧ OutsideOnly t

/-- 20_memory.md R71; 44_dispatcher.md R202; 93_implementation_defined.md U1: under the invariant no step is refused
`QueueFull` or `BadIndex`, none faults, and no operation finds its descriptor changed. -/
def Obligations.UnreachableStopsNeverHappen : Prop :=
  ∀ s : State, Inv s → OutsideOnly s →
    step s ≠ .refused .queueFull ∧ step s ≠ .refused .badIndex ∧ (∀ r, step s ≠ .fault r) ∧
    (∀ i, opClassOf i ≠ .primitive → exec i s ≠ .refused .descriptorMutated)

/-- 10_state.md R52 to R54 (D2): every counter stays below `2^CTR_W`, and an operation whose rule would give one a value
that reaches it is refused `CounterOverflow`: for each addition of R54, in the operation and the branch that makes it
(the start of a further repetition is at least each of its intermediate results).
That the tick budget is tested as well is the model's reading, log 13. -/
def Obligations.CountersStayWithinTheirWidth : Prop :=
  (∀ s t : State, CountersFit s → step s = .next t → CountersFit t) ∧
  (∀ (s : State) (w : Nat), s.cfg.ctrW = some w →
    (∀ tx p, s.gen = .pulse tx p → s.tmr.baseOn = true → s.tmr.baseLevel = true → 2 ^ w ≤ p.c + 1 →
      exec .bfall s = .refused .counterOverflow) ∧
    (∀ tx p name q, s.gen = .pulse tx p → s.tmr.baseOn = true → s.tmr.baseLevel = false →
      s.cfg.syncCycles ≤ p.c → p.nextRepStart ≤ p.c → readDescriptor s tx = some ⟨name, .pulse q⟩ →
      (∀ b, p.bitIdx < q.L → q.code[p.bitIdx]? = some b → 2 ^ w ≤ p.bitIdx + 1 ∨ 2 ^ w ≤ tickBudget s.cfg b →
        exec .brise s = .refused .counterOverflow) ∧
      (q.L ≤ p.bitIdx → 2 ^ w ≤ p.repsSent + 1 → exec .brise s = .refused .counterOverflow) ∧
      (q.L ≤ p.bitIdx → p.repsSent + 1 < q.R →
        2 ^ w ≤ s.cfg.syncCycles + s.cfg.waitCycles + (q.L + s.cfg.gapCycles) * (p.repsSent + 1) →
        exec .brise s = .refused .counterOverflow)) ∧
    (∀ tx f, s.gen = .fixed tx f → s.tmr.fixedOn = true → f.t < f.nextRepStart → 2 ^ w ≤ f.t + 1 →
      exec .ftick s = .refused .counterOverflow) ∧
    (∀ tx f name q, s.gen = .fixed tx f → s.tmr.fixedOn = true → f.nextRepStart ≤ f.t →
      readDescriptor s tx = some ⟨name, .fixed q⟩ →
      (q.codeLen = q.data.length → f.bitIdx < 8 * q.codeLen → 2 ^ w ≤ f.bitIdx + 1 ∨ 2 ^ w ≤ f.t + 1 →
        exec .ftick s = .refused .counterOverflow) ∧
      (f.bitIdx = 8 * q.codeLen → 2 ^ w ≤ f.repIdx + 1 → exec .ftick s = .refused .counterOverflow) ∧
      (f.bitIdx = 8 * q.codeLen → f.repIdx + 1 < q.repetitions →
        2 ^ w ≤ f.t + q.ticksBetween ∨ 2 ^ w ≤ f.t + 1 → exec .ftick s = .refused .counterOverflow) ∧
      (f.bitIdx = 8 * q.codeLen → q.repetitions ≤ f.repIdx + 1 → f.terminated = true ∨ s.cq.length < s.cfg.cqDepth →
        2 ^ w ≤ f.t + 1 → exec .ftick s = .refused .counterOverflow)) ∧
    (∀ tx name q, s.gen = .invalid → s.tmr.baseOn = false → s.tmr.fixedOn = false →
      readDescriptor s tx = some ⟨name, .pulse q⟩ → q.wellFormed = true →
      2 ^ w ≤ s.cfg.syncCycles + s.cfg.waitCycles →
      (s.ant.busy = true → s.ant.active = some tx → exec (.begin tx true) s = .refused .counterOverflow) ∧
      (s.ant.busy = false → exec (.req tx true) s = .refused .counterOverflow ∧
        ∀ n, lookupSignal s.signals n = some tx → exec (.reqi n true) s = .refused .counterOverflow)))

/-- 20_memory.md R69: no operation writes descriptor storage. -/
def Obligations.NoOperationWritesDescriptorStorage : Prop :=
  ∀ (i : Instr) (s t : State), exec i s = .next t →
    t.store = s.store ∧ ∀ tx, readDescriptor t tx = readDescriptor s tx

/-- 10_state.md R24, R48; 70_reset_and_hazards.md R253: no operation writes the configuration, the signal table or a
hook slot, and none takes or adds an input or writes the mark that closes boot (that these stand in the state is the
model's choice, logs 1, 4, 5, 11). -/
def Obligations.NoOperationWritesParameters : Prop :=
  ∀ (i : Instr) (s t : State), exec i s = .next t →
    t.cfg = s.cfg ∧ t.signals = s.signals ∧ t.ant.hookBegin = s.ant.hookBegin ∧ t.ant.hookEnd = s.ant.hookEnd ∧
    t.inputs = s.inputs ∧ t.bootClosed = s.bootClosed

/-- 44_dispatcher.md R201: no interrupt event writes a timer enable, `ANT.*` or `LOG`. -/
def Obligations.InterruptEventsLeaveAntennaAndLog : Prop :=
  ∀ (i : Instr) (s t : State), opClassOf i = .event → exec i s = .next t →
    t.ant = s.ant ∧ t.log = s.log ∧ t.tmr.baseOn = s.tmr.baseOn ∧ t.tmr.fixedOn = s.tmr.fixedOn

/-- 10_state.md R25: the line is written by the interrupt events and by `SETOUT`, and by nothing else. -/
def Obligations.OnlyHandlersWriteTheLine : Prop :=
  ∀ (i : Instr) (s t : State), opClassOf i ≠ .event → (∀ l, i ≠ .setout l) → exec i s = .next t → t.out = s.out

/-- 10_state.md R27, R28; 20_memory.md R74: the tag changes only when `BEGIN` or a request loads an idle slot and when
a clean-up empties it; and a task-context operation never writes the registers of a generator it does not load or
empty. -/
def Obligations.TagChangesOnlyByBeginAndCleanup : Prop :=
  (∀ (i : Instr) (s t : State), exec i s = .next t → t.gen.tag ≠ s.gen.tag →
    (s.gen = .invalid ∧ ((∃ tx hw, i = .begin tx hw) ∨ (∃ tx hw, i = .req tx hw) ∨ (∃ n hw, i = .reqi n hw))) ∨
    (t.gen = .invalid ∧ (i = .dispatch ∨ ∃ tx, i = .cleanup tx))) ∧
  (∀ (i : Instr) (s t : State), opClassOf i = .task → exec i s = .next t →
    t.gen = s.gen ∨ s.gen = .invalid ∨ t.gen = .invalid)

/-- 10_state.md R46: the log is only appended to. -/
def Obligations.LogIsOnlyAppendedTo : Prop :=
  ∀ (i : Instr) (s t : State), exec i s = .next t → ∃ es, t.log = s.log ++ es

/-- 30_encoding.md R88, R89, R91; 43_fixed_code.md R185, R186: with unbounded counters, from the state `BEGIN` loads,
any number of ticks can be delivered; after tick `m` the line is at the level the frame table gives tick `m`, and the
generator has terminated, with exactly one token queued, from the tick of R186 on. -/
def Obligations.FixedTransmissionFollowsItsFrame : Prop :=
  ∀ (s : State) (tx : TxRef) (name : String) (q : FixedPayload), Inv s → s.cfg.ctrW = none →
    s.gen = .fixed tx { t := 0, bitIdx := 0, repIdx := 0, nextRepStart := 0, terminated := false } →
    readDescriptor s tx = some ⟨name, .fixed q⟩ →
    ∀ m : Nat, ∃ t f, runOps (List.replicate (m + 1) .ftick) s = .next t ∧ t.gen = .fixed tx f ∧
      t.out = fixedLevel q m ∧ f.t = m + 1 ∧ (f.terminated = true ↔ fixedEnd q ≤ m) ∧
      t.cq = (if fixedEnd q ≤ m then [⟨.cleanup, tx⟩] else []) ∧ t.log = s.log ∧ t.ant = s.ant

/-- 30_encoding.md R80 to R84, R91; 42_pulse_code.md R163 to R166 (D7, D8): with unbounded counters, from the state
`BEGIN` loads, any number of whole cycles with any number of sub-carrier ticks each, then a rise and `j` ticks, can be
delivered; the line is then at the level the symbol of that cycle has after `j` ticks, and the generator has
terminated, with exactly one token queued, from the cycle of R165 on. -/
def Obligations.PulseTransmissionFollowsItsFrame : Prop :=
  ∀ (s : State) (tx : TxRef) (name : String) (q : PulsePayload), Inv s → s.cfg.ctrW = none →
    s.gen = .pulse tx { c := 0, bitIdx := 0, oscRunning := false, oscBudget := 0, oscLevel := false,
                        nextRepStart := s.cfg.syncCycles + s.cfg.waitCycles, repsSent := 0, terminated := false } →
    s.tmr.baseLevel = false → readDescriptor s tx = some ⟨name, .pulse q⟩ →
    ∀ (ns : List Nat) (j : Nat), ∃ t u p,
      runOps (cycles ns) s = .next t ∧ t.out = false ∧
      runOps (cycles ns ++ .brise :: List.replicate j .stick) s = .next u ∧ u.gen = .pulse tx p ∧
      u.out = symbolLevel s.cfg (pulseSymbol s.cfg q ns.length) j ∧ p.c = ns.length ∧
      (p.terminated = true ↔ pulseEnd s.cfg q ≤ ns.length) ∧
      u.cq = (if pulseEnd s.cfg q ≤ ns.length then [⟨.cleanup, tx⟩] else []) ∧ u.log = s.log ∧ u.ant = s.ant
end

