-- ==== Sys2Proof/Laws/Memory.lean ====
section
/-! SUPPORT. Descriptor storage: a write keeps the canonical form, a read after a write to the same reference gives what
was written, a write leaves every other reference alone. -/

namespace Sys2Proof.Machine

theorem Memory.above_of_mem {tx : TxRef} {m : List (TxRef × Descriptor)} (h : Memory.above tx m = true)
    {c : TxRef × Descriptor} (hc : c ∈ m) : tx < c.1 := by
  simp only [Memory.above, List.all_eq_true, decide_eq_true_eq] at h
  exact h c hc

theorem Memory.above_mono {a b : TxRef} {m : List (TxRef × Descriptor)} (h : Memory.above b m = true) (hab : a ≤ b) :
    Memory.above a m = true := by
  simp only [Memory.above, List.all_eq_true, decide_eq_true_eq] at h ⊢
  exact fun c hc => lt_of_le_of_lt hab (h c hc)

theorem Memory.erase_cons (c : TxRef × Descriptor) (m : List (TxRef × Descriptor)) (tx : TxRef) :
    Memory.erase (c :: m) tx = if c.1 = tx then Memory.erase m tx else c :: Memory.erase m tx := by
  by_cases h : c.1 = tx <;> simp [Memory.erase, h]

theorem Memory.above_erase {a : TxRef} {m : List (TxRef × Descriptor)} (tx : TxRef) (h : Memory.above a m = true) :
    Memory.above a (Memory.erase m tx) = true := by
  simp only [Memory.above, Memory.erase, List.all_eq_true, List.mem_filter, decide_eq_true_eq] at h ⊢
  exact fun c hc => h c hc.1

theorem Memory.erase_wf {m : List (TxRef × Descriptor)} (tx : TxRef) (h : Memory.wf m = true) :
    Memory.wf (Memory.erase m tx) = true := by
  induction m with
  | nil => exact h
  | cons c rest ih =>
    simp only [Memory.wf, Bool.and_eq_true] at h
    rw [Memory.erase_cons]
    split
    · exact ih h.2
    · simp only [Memory.wf, Bool.and_eq_true]
      exact ⟨Memory.above_erase tx h.1, ih h.2⟩

theorem Memory.above_insert {a tx : TxRef} {d : Descriptor} {m : List (TxRef × Descriptor)}
    (h : Memory.above a m = true) (ha : a < tx) : Memory.above a (Memory.insert m tx d) = true := by
  induction m with
  | nil => simpa [Memory.insert, Memory.above] using ha
  | cons c rest ih =>
    simp only [Memory.above, List.all_cons, Bool.and_eq_true, decide_eq_true_eq] at h ih
    simp only [Memory.insert]
    split
    · simp only [Memory.above, List.all_cons, Bool.and_eq_true, decide_eq_true_eq]
      exact ⟨ha, h.1, h.2⟩
    · simp only [Memory.above, List.all_cons, Bool.and_eq_true, decide_eq_true_eq]
      exact ⟨h.1, ih h.2⟩

theorem Memory.insert_wf {m : List (TxRef × Descriptor)} {tx : TxRef} (d : Descriptor) (h : Memory.wf m = true)
    (hne : ∀ c ∈ m, c.1 ≠ tx) : Memory.wf (Memory.insert m tx d) = true := by
  induction m with
  | nil => simp [Memory.insert, Memory.wf, Memory.above]
  | cons c rest ih =>
    have hc := hne c (by simp)
    simp only [Memory.wf, Bool.and_eq_true] at h
    simp only [Memory.insert]
    split
    case isTrue hlt =>
      simp only [Memory.wf, Bool.and_eq_true]
      refine ⟨?_, h.1, h.2⟩
      simp only [Memory.above, List.all_cons, Bool.and_eq_true, decide_eq_true_eq]
      exact ⟨hlt, Memory.above_mono h.1 (le_of_lt hlt)⟩
    case isFalse hge =>
      simp only [Memory.wf, Bool.and_eq_true]
      exact ⟨Memory.above_insert h.1 (lt_of_le_of_ne (not_lt.mp hge) hc),
        ih h.2 fun c' hc' => hne c' (by simp [hc'])⟩

theorem Memory.erase_ne {m : List (TxRef × Descriptor)} {tx : TxRef} {c : TxRef × Descriptor}
    (h : c ∈ Memory.erase m tx) : c.1 ≠ tx := by
  simp only [Memory.erase, List.mem_filter, decide_eq_true_eq] at h
  exact h.2

/-- Every write keeps the canonical form. -/
theorem Memory.write_wf {m : List (TxRef × Descriptor)} (tx : TxRef) (d : Option Descriptor)
    (h : Memory.wf m = true) : Memory.wf (Memory.write m tx d) = true := by
  cases d with
  | none => exact Memory.erase_wf tx h
  | some d => exact Memory.insert_wf d (Memory.erase_wf tx h) fun c hc => Memory.erase_ne hc

theorem Memory.read_erase_same (m : List (TxRef × Descriptor)) (tx : TxRef) :
    Memory.read (Memory.erase m tx) tx = none := by
  induction m with
  | nil => rfl
  | cons c rest ih =>
    rw [Memory.erase_cons]
    split
    · exact ih
    · simp only [Memory.read]
      split
      · contradiction
      · exact ih

theorem Memory.read_erase_other (m : List (TxRef × Descriptor)) {tx a : TxRef} (h : a ≠ tx) :
    Memory.read (Memory.erase m tx) a = Memory.read m a := by
  induction m with
  | nil => rfl
  | cons c rest ih =>
    rw [Memory.erase_cons]
    split
    case isTrue hc =>
      simp only [Memory.read]
      split
      case isTrue hca => exact absurd (hca.symm.trans hc) h
      case isFalse => exact ih
    case isFalse => simp only [Memory.read, ih]

theorem Memory.read_insert_same (m : List (TxRef × Descriptor)) (tx : TxRef) (d : Descriptor)
    (hne : ∀ c ∈ m, c.1 ≠ tx) : Memory.read (Memory.insert m tx d) tx = some d := by
  induction m with
  | nil => simp [Memory.insert, Memory.read]
  | cons c rest ih =>
    have hc := hne c (by simp)
    simp only [Memory.insert]
    split
    · simp [Memory.read]
    · simp only [Memory.read, if_neg hc]
      exact ih fun c' hc' => hne c' (by simp [hc'])

theorem Memory.read_insert_other (m : List (TxRef × Descriptor)) {tx a : TxRef} (d : Descriptor) (h : a ≠ tx) :
    Memory.read (Memory.insert m tx d) a = Memory.read m a := by
  induction m with
  | nil => simp [Memory.insert, Memory.read, h.symm]
  | cons c rest ih =>
    simp only [Memory.insert]
    split
    · simp [Memory.read, h.symm]
    · simp only [Memory.read, ih]

/-- A read after a write to the same reference gives what was written. -/
theorem Memory.read_write_same (m : List (TxRef × Descriptor)) (tx : TxRef) (d : Option Descriptor) :
    Memory.read (Memory.write m tx d) tx = d := by
  cases d with
  | none => exact Memory.read_erase_same m tx
  | some d => exact Memory.read_insert_same _ tx d fun c hc => Memory.erase_ne hc

/-- A write leaves every other reference alone. -/
theorem Memory.read_write_other (m : List (TxRef × Descriptor)) {tx a : TxRef} (d : Option Descriptor) (h : a ≠ tx) :
    Memory.read (Memory.write m tx d) a = Memory.read m a := by
  cases d with
  | none => exact Memory.read_erase_other m h
  | some d => exact (Memory.read_insert_other _ d h).trans (Memory.read_erase_other m h)

end Sys2Proof.Machine
end

