-- ==== Sys2Proof/Laws/State.lean ====
section
/-! SUPPORT. One lemma per field per writer of the state, each true by unfolding, so that no later proof unfolds a record update. -/

namespace Sys2Proof.Machine

@[simp] theorem State.setAnt_ant (s : State) (a : Antenna) : (s.setAnt a).ant = a := rfl
@[simp] theorem State.setAnt_out (s : State) (a : Antenna) : (s.setAnt a).out = s.out := rfl
@[simp] theorem State.setAnt_gen (s : State) (a : Antenna) : (s.setAnt a).gen = s.gen := rfl
@[simp] theorem State.setAnt_tmr (s : State) (a : Antenna) : (s.setAnt a).tmr = s.tmr := rfl
@[simp] theorem State.setAnt_cq (s : State) (a : Antenna) : (s.setAnt a).cq = s.cq := rfl
@[simp] theorem State.setAnt_log (s : State) (a : Antenna) : (s.setAnt a).log = s.log := rfl
@[simp] theorem State.setAnt_cfg (s : State) (a : Antenna) : (s.setAnt a).cfg = s.cfg := rfl
@[simp] theorem State.setAnt_signals (s : State) (a : Antenna) : (s.setAnt a).signals = s.signals := rfl
@[simp] theorem State.setAnt_store (s : State) (a : Antenna) : (s.setAnt a).store = s.store := rfl
@[simp] theorem State.setAnt_reply (s : State) (a : Antenna) : (s.setAnt a).reply = s.reply := rfl
@[simp] theorem State.setAnt_inputs (s : State) (a : Antenna) : (s.setAnt a).inputs = s.inputs := rfl
@[simp] theorem State.setAnt_bootClosed (s : State) (a : Antenna) : (s.setAnt a).bootClosed = s.bootClosed := rfl

@[simp] theorem State.setOut_ant (s : State) (l : Level) : (s.setOut l).ant = s.ant := rfl
@[simp] theorem State.setOut_out (s : State) (l : Level) : (s.setOut l).out = l := rfl
@[simp] theorem State.setOut_gen (s : State) (l : Level) : (s.setOut l).gen = s.gen := rfl
@[simp] theorem State.setOut_tmr (s : State) (l : Level) : (s.setOut l).tmr = s.tmr := rfl
@[simp] theorem State.setOut_cq (s : State) (l : Level) : (s.setOut l).cq = s.cq := rfl
@[simp] theorem State.setOut_log (s : State) (l : Level) : (s.setOut l).log = s.log := rfl
@[simp] theorem State.setOut_cfg (s : State) (l : Level) : (s.setOut l).cfg = s.cfg := rfl
@[simp] theorem State.setOut_signals (s : State) (l : Level) : (s.setOut l).signals = s.signals := rfl
@[simp] theorem State.setOut_store (s : State) (l : Level) : (s.setOut l).store = s.store := rfl
@[simp] theorem State.setOut_reply (s : State) (l : Level) : (s.setOut l).reply = s.reply := rfl
@[simp] theorem State.setOut_inputs (s : State) (l : Level) : (s.setOut l).inputs = s.inputs := rfl
@[simp] theorem State.setOut_bootClosed (s : State) (l : Level) : (s.setOut l).bootClosed = s.bootClosed := rfl

@[simp] theorem State.setGen_ant (s : State) (g : Gen) : (s.setGen g).ant = s.ant := rfl
@[simp] theorem State.setGen_out (s : State) (g : Gen) : (s.setGen g).out = s.out := rfl
@[simp] theorem State.setGen_gen (s : State) (g : Gen) : (s.setGen g).gen = g := rfl
@[simp] theorem State.setGen_tmr (s : State) (g : Gen) : (s.setGen g).tmr = s.tmr := rfl
@[simp] theorem State.setGen_cq (s : State) (g : Gen) : (s.setGen g).cq = s.cq := rfl
@[simp] theorem State.setGen_log (s : State) (g : Gen) : (s.setGen g).log = s.log := rfl
@[simp] theorem State.setGen_cfg (s : State) (g : Gen) : (s.setGen g).cfg = s.cfg := rfl
@[simp] theorem State.setGen_signals (s : State) (g : Gen) : (s.setGen g).signals = s.signals := rfl
@[simp] theorem State.setGen_store (s : State) (g : Gen) : (s.setGen g).store = s.store := rfl
@[simp] theorem State.setGen_reply (s : State) (g : Gen) : (s.setGen g).reply = s.reply := rfl
@[simp] theorem State.setGen_inputs (s : State) (g : Gen) : (s.setGen g).inputs = s.inputs := rfl
@[simp] theorem State.setGen_bootClosed (s : State) (g : Gen) : (s.setGen g).bootClosed = s.bootClosed := rfl

@[simp] theorem State.setTmr_ant (s : State) (t : Timers) : (s.setTmr t).ant = s.ant := rfl
@[simp] theorem State.setTmr_out (s : State) (t : Timers) : (s.setTmr t).out = s.out := rfl
@[simp] theorem State.setTmr_gen (s : State) (t : Timers) : (s.setTmr t).gen = s.gen := rfl
@[simp] theorem State.setTmr_tmr (s : State) (t : Timers) : (s.setTmr t).tmr = t := rfl
@[simp] theorem State.setTmr_cq (s : State) (t : Timers) : (s.setTmr t).cq = s.cq := rfl
@[simp] theorem State.setTmr_log (s : State) (t : Timers) : (s.setTmr t).log = s.log := rfl
@[simp] theorem State.setTmr_cfg (s : State) (t : Timers) : (s.setTmr t).cfg = s.cfg := rfl
@[simp] theorem State.setTmr_signals (s : State) (t : Timers) : (s.setTmr t).signals = s.signals := rfl
@[simp] theorem State.setTmr_store (s : State) (t : Timers) : (s.setTmr t).store = s.store := rfl
@[simp] theorem State.setTmr_reply (s : State) (t : Timers) : (s.setTmr t).reply = s.reply := rfl
@[simp] theorem State.setTmr_inputs (s : State) (t : Timers) : (s.setTmr t).inputs = s.inputs := rfl
@[simp] theorem State.setTmr_bootClosed (s : State) (t : Timers) : (s.setTmr t).bootClosed = s.bootClosed := rfl

@[simp] theorem State.setCq_ant (s : State) (q : List Token) : (s.setCq q).ant = s.ant := rfl
@[simp] theorem State.setCq_out (s : State) (q : List Token) : (s.setCq q).out = s.out := rfl
@[simp] theorem State.setCq_gen (s : State) (q : List Token) : (s.setCq q).gen = s.gen := rfl
@[simp] theorem State.setCq_tmr (s : State) (q : List Token) : (s.setCq q).tmr = s.tmr := rfl
@[simp] theorem State.setCq_cq (s : State) (q : List Token) : (s.setCq q).cq = q := rfl
@[simp] theorem State.setCq_log (s : State) (q : List Token) : (s.setCq q).log = s.log := rfl
@[simp] theorem State.setCq_cfg (s : State) (q : List Token) : (s.setCq q).cfg = s.cfg := rfl
@[simp] theorem State.setCq_signals (s : State) (q : List Token) : (s.setCq q).signals = s.signals := rfl
@[simp] theorem State.setCq_store (s : State) (q : List Token) : (s.setCq q).store = s.store := rfl
@[simp] theorem State.setCq_reply (s : State) (q : List Token) : (s.setCq q).reply = s.reply := rfl
@[simp] theorem State.setCq_inputs (s : State) (q : List Token) : (s.setCq q).inputs = s.inputs := rfl
@[simp] theorem State.setCq_bootClosed (s : State) (q : List Token) : (s.setCq q).bootClosed = s.bootClosed := rfl

@[simp] theorem State.addLog_ant (s : State) (e : Event) : (s.addLog e).ant = s.ant := rfl
@[simp] theorem State.addLog_out (s : State) (e : Event) : (s.addLog e).out = s.out := rfl
@[simp] theorem State.addLog_gen (s : State) (e : Event) : (s.addLog e).gen = s.gen := rfl
@[simp] theorem State.addLog_tmr (s : State) (e : Event) : (s.addLog e).tmr = s.tmr := rfl
@[simp] theorem State.addLog_cq (s : State) (e : Event) : (s.addLog e).cq = s.cq := rfl
@[simp] theorem State.addLog_log (s : State) (e : Event) : (s.addLog e).log = s.log ++ [e] := rfl
@[simp] theorem State.addLog_cfg (s : State) (e : Event) : (s.addLog e).cfg = s.cfg := rfl
@[simp] theorem State.addLog_signals (s : State) (e : Event) : (s.addLog e).signals = s.signals := rfl
@[simp] theorem State.addLog_store (s : State) (e : Event) : (s.addLog e).store = s.store := rfl
@[simp] theorem State.addLog_reply (s : State) (e : Event) : (s.addLog e).reply = s.reply := rfl
@[simp] theorem State.addLog_inputs (s : State) (e : Event) : (s.addLog e).inputs = s.inputs := rfl
@[simp] theorem State.addLog_bootClosed (s : State) (e : Event) : (s.addLog e).bootClosed = s.bootClosed := rfl

@[simp] theorem State.setReply_ant (s : State) (r : Reply) : (s.setReply r).ant = s.ant := rfl
@[simp] theorem State.setReply_out (s : State) (r : Reply) : (s.setReply r).out = s.out := rfl
@[simp] theorem State.setReply_gen (s : State) (r : Reply) : (s.setReply r).gen = s.gen := rfl
@[simp] theorem State.setReply_tmr (s : State) (r : Reply) : (s.setReply r).tmr = s.tmr := rfl
@[simp] theorem State.setReply_cq (s : State) (r : Reply) : (s.setReply r).cq = s.cq := rfl
@[simp] theorem State.setReply_log (s : State) (r : Reply) : (s.setReply r).log = s.log := rfl
@[simp] theorem State.setReply_cfg (s : State) (r : Reply) : (s.setReply r).cfg = s.cfg := rfl
@[simp] theorem State.setReply_signals (s : State) (r : Reply) : (s.setReply r).signals = s.signals := rfl
@[simp] theorem State.setReply_store (s : State) (r : Reply) : (s.setReply r).store = s.store := rfl
@[simp] theorem State.setReply_reply (s : State) (r : Reply) : (s.setReply r).reply = r := rfl
@[simp] theorem State.setReply_inputs (s : State) (r : Reply) : (s.setReply r).inputs = s.inputs := rfl
@[simp] theorem State.setReply_bootClosed (s : State) (r : Reply) : (s.setReply r).bootClosed = s.bootClosed := rfl

@[simp] theorem setBaseLevel_ant (l : Level) (s : State) : (setBaseLevel l s).ant = s.ant := rfl
@[simp] theorem setBaseLevel_out (l : Level) (s : State) : (setBaseLevel l s).out = s.out := rfl
@[simp] theorem setBaseLevel_gen (l : Level) (s : State) : (setBaseLevel l s).gen = s.gen := rfl
@[simp] theorem setBaseLevel_tmr (l : Level) (s : State) : (setBaseLevel l s).tmr = { s.tmr with baseLevel := l } := rfl
@[simp] theorem setBaseLevel_cq (l : Level) (s : State) : (setBaseLevel l s).cq = s.cq := rfl
@[simp] theorem setBaseLevel_log (l : Level) (s : State) : (setBaseLevel l s).log = s.log := rfl
@[simp] theorem setBaseLevel_cfg (l : Level) (s : State) : (setBaseLevel l s).cfg = s.cfg := rfl
@[simp] theorem setBaseLevel_signals (l : Level) (s : State) : (setBaseLevel l s).signals = s.signals := rfl
@[simp] theorem setBaseLevel_store (l : Level) (s : State) : (setBaseLevel l s).store = s.store := rfl
@[simp] theorem setBaseLevel_reply (l : Level) (s : State) : (setBaseLevel l s).reply = s.reply := rfl
@[simp] theorem setBaseLevel_inputs (l : Level) (s : State) : (setBaseLevel l s).inputs = s.inputs := rfl
@[simp] theorem setBaseLevel_bootClosed (l : Level) (s : State) : (setBaseLevel l s).bootClosed = s.bootClosed := rfl

@[simp] theorem stopGenerator_ant (s : State) : (stopGenerator s).ant = s.ant := rfl
@[simp] theorem stopGenerator_out (s : State) : (stopGenerator s).out = s.out := rfl
@[simp] theorem stopGenerator_gen (s : State) : (stopGenerator s).gen = .invalid := rfl
@[simp] theorem stopGenerator_tmr (s : State) : (stopGenerator s).tmr = ⟨false, false, false⟩ := rfl
@[simp] theorem stopGenerator_cq (s : State) : (stopGenerator s).cq = s.cq := rfl
@[simp] theorem stopGenerator_log (s : State) : (stopGenerator s).log = s.log := rfl
@[simp] theorem stopGenerator_cfg (s : State) : (stopGenerator s).cfg = s.cfg := rfl
@[simp] theorem stopGenerator_signals (s : State) : (stopGenerator s).signals = s.signals := rfl
@[simp] theorem stopGenerator_store (s : State) : (stopGenerator s).store = s.store := rfl
@[simp] theorem stopGenerator_reply (s : State) : (stopGenerator s).reply = s.reply := rfl
@[simp] theorem stopGenerator_inputs (s : State) : (stopGenerator s).inputs = s.inputs := rfl
@[simp] theorem stopGenerator_bootClosed (s : State) : (stopGenerator s).bootClosed = s.bootClosed := rfl

@[simp] theorem invokeHook_ant (k : Slot) (e : Event) (s : State) : (invokeHook k e s).ant = s.ant := rfl
@[simp] theorem invokeHook_out (k : Slot) (e : Event) (s : State) : (invokeHook k e s).out = s.out := rfl
@[simp] theorem invokeHook_gen (k : Slot) (e : Event) (s : State) : (invokeHook k e s).gen = s.gen := rfl
@[simp] theorem invokeHook_tmr (k : Slot) (e : Event) (s : State) : (invokeHook k e s).tmr = s.tmr := rfl
@[simp] theorem invokeHook_cq (k : Slot) (e : Event) (s : State) : (invokeHook k e s).cq = s.cq := rfl
@[simp] theorem invokeHook_log (k : Slot) (e : Event) (s : State) : (invokeHook k e s).log = s.log ++ hookEvents k e := rfl
@[simp] theorem invokeHook_cfg (k : Slot) (e : Event) (s : State) : (invokeHook k e s).cfg = s.cfg := rfl
@[simp] theorem invokeHook_signals (k : Slot) (e : Event) (s : State) : (invokeHook k e s).signals = s.signals := rfl
@[simp] theorem invokeHook_store (k : Slot) (e : Event) (s : State) : (invokeHook k e s).store = s.store := rfl
@[simp] theorem invokeHook_reply (k : Slot) (e : Event) (s : State) : (invokeHook k e s).reply = s.reply := rfl
@[simp] theorem invokeHook_inputs (k : Slot) (e : Event) (s : State) : (invokeHook k e s).inputs = s.inputs := rfl
@[simp] theorem invokeHook_bootClosed (k : Slot) (e : Event) (s : State) : (invokeHook k e s).bootClosed = s.bootClosed := rfl

@[simp] theorem takeAntenna_ant (tx : TxRef) (s : State) : (takeAntenna tx s).ant = { s.ant with busy := true, active := some tx } := by
  simp [takeAntenna]
@[simp] theorem takeAntenna_out (tx : TxRef) (s : State) : (takeAntenna tx s).out = s.out := by
  simp [takeAntenna]
@[simp] theorem takeAntenna_gen (tx : TxRef) (s : State) : (takeAntenna tx s).gen = s.gen := by
  simp [takeAntenna]
@[simp] theorem takeAntenna_tmr (tx : TxRef) (s : State) : (takeAntenna tx s).tmr = s.tmr := by
  simp [takeAntenna]
@[simp] theorem takeAntenna_cq (tx : TxRef) (s : State) : (takeAntenna tx s).cq = s.cq := by
  simp [takeAntenna]
@[simp] theorem takeAntenna_log (tx : TxRef) (s : State) : (takeAntenna tx s).log = s.log ++ hookEvents s.ant.hookBegin (.hookBegin tx) := by
  simp [takeAntenna]
@[simp] theorem takeAntenna_cfg (tx : TxRef) (s : State) : (takeAntenna tx s).cfg = s.cfg := by
  simp [takeAntenna]
@[simp] theorem takeAntenna_signals (tx : TxRef) (s : State) : (takeAntenna tx s).signals = s.signals := by
  simp [takeAntenna]
@[simp] theorem takeAntenna_store (tx : TxRef) (s : State) : (takeAntenna tx s).store = s.store := by
  simp [takeAntenna]
@[simp] theorem takeAntenna_reply (tx : TxRef) (s : State) : (takeAntenna tx s).reply = s.reply := by
  simp [takeAntenna]
@[simp] theorem takeAntenna_inputs (tx : TxRef) (s : State) : (takeAntenna tx s).inputs = s.inputs := by
  simp [takeAntenna]
@[simp] theorem takeAntenna_bootClosed (tx : TxRef) (s : State) : (takeAntenna tx s).bootClosed = s.bootClosed := by
  simp [takeAntenna]

@[simp] theorem free_ant (s : State) : (free s).ant = { s.ant with busy := false, active := none } := by
  simp [free]
@[simp] theorem free_out (s : State) : (free s).out = s.out := by
  simp [free]
@[simp] theorem free_gen (s : State) : (free s).gen = s.gen := by
  simp [free]
@[simp] theorem free_tmr (s : State) : (free s).tmr = s.tmr := by
  simp [free]
@[simp] theorem free_cq (s : State) : (free s).cq = s.cq := by
  simp [free]
@[simp] theorem free_log (s : State) : (free s).log = s.log ++ hookEvents s.ant.hookEnd .hookEnd := by
  simp [free]
@[simp] theorem free_cfg (s : State) : (free s).cfg = s.cfg := by
  simp [free]
@[simp] theorem free_signals (s : State) : (free s).signals = s.signals := by
  simp [free]
@[simp] theorem free_store (s : State) : (free s).store = s.store := by
  simp [free]
@[simp] theorem free_reply (s : State) : (free s).reply = s.reply := by
  simp [free]
@[simp] theorem free_inputs (s : State) : (free s).inputs = s.inputs := by
  simp [free]
@[simp] theorem free_bootClosed (s : State) : (free s).bootClosed = s.bootClosed := by
  simp [free]

@[simp] theorem noteRequest_ant (i : Instr) (s : State) : (noteRequest i s).ant = s.ant := rfl
@[simp] theorem noteRequest_out (i : Instr) (s : State) : (noteRequest i s).out = s.out := rfl
@[simp] theorem noteRequest_gen (i : Instr) (s : State) : (noteRequest i s).gen = s.gen := rfl
@[simp] theorem noteRequest_tmr (i : Instr) (s : State) : (noteRequest i s).tmr = s.tmr := rfl
@[simp] theorem noteRequest_cq (i : Instr) (s : State) : (noteRequest i s).cq = s.cq := rfl
@[simp] theorem noteRequest_log (i : Instr) (s : State) : (noteRequest i s).log = s.log := rfl
@[simp] theorem noteRequest_cfg (i : Instr) (s : State) : (noteRequest i s).cfg = s.cfg := rfl
@[simp] theorem noteRequest_signals (i : Instr) (s : State) : (noteRequest i s).signals = s.signals := rfl
@[simp] theorem noteRequest_store (i : Instr) (s : State) : (noteRequest i s).store = s.store := rfl
@[simp] theorem noteRequest_reply (i : Instr) (s : State) : (noteRequest i s).reply = s.reply := rfl
@[simp] theorem noteRequest_inputs (i : Instr) (s : State) : (noteRequest i s).inputs = s.inputs := rfl
@[simp] theorem noteRequest_bootClosed (i : Instr) (s : State) :
    (noteRequest i s).bootClosed = (s.bootClosed || isRequest i) := rfl

end Sys2Proof.Machine
end

