-- ==== Sys2Proof/Laws/Ops.lean ====
section
/-! SUPPORT. For each shared operation, what it can do: the cases in which it answers a next state. -/

namespace Sys2Proof.Machine

theorem next_eq_next {α : Type} {a b : α} : (.next a : Run α) = .next b ↔ b = a := by
  rw [Host.Outcome.next.injEq, eq_comm]

theorem andThen_eq_next {α β : Type} {x : Run α} {f : α → Run β} {b : β} :
    andThen x f = .next b ↔ ∃ a, x = .next a ∧ f a = .next b := by
  cases x <;> simp [andThen]

@[simp] theorem andThen_next {α β : Type} (a : α) (f : α → Run β) : andThen (.next a) f = f a := rfl

@[simp] theorem andThen_refused {α β : Type} (r : Refusal) (f : α → Run β) :
    andThen (.refused r : Run α) f = .refused r := rfl

@[simp] theorem andThen_fault {α β : Type} (r : Fault) (f : α → Run β) :
    andThen (.fault r : Run α) f = .fault r := rfl

theorem requireFits_eq_next {c : Params} {v : Nat} {k : Run State} {t : State} :
    requireFits c v k = .next t ↔ fits c v = true ∧ k = .next t := by
  unfold requireFits
  split <;> simp_all

theorem withPulse_eq_next {s t : State} {f : TxRef → PulseRegs → Run State} :
    withPulse s f = .next t ↔ ∃ tx p, s.gen = .pulse tx p ∧ f tx p = .next t := by
  unfold withPulse
  split <;> simp_all

theorem withFixed_eq_next {s t : State} {f : TxRef → FixedRegs → Run State} :
    withFixed s f = .next t ↔ ∃ tx r, s.gen = .fixed tx r ∧ f tx r = .next t := by
  unfold withFixed
  split <;> simp_all

theorem withPulsePayload_eq_next {s t : State} {tx : TxRef} {f : PulsePayload → Run State} :
    withPulsePayload s tx f = .next t ↔
      ∃ name q, readDescriptor s tx = some ⟨name, .pulse q⟩ ∧ f q = .next t := by
  unfold withPulsePayload
  split <;> simp_all

theorem withFixedPayload_eq_next {s t : State} {tx : TxRef} {f : FixedPayload → Run State} :
    withFixedPayload s tx f = .next t ↔
      ∃ name q, readDescriptor s tx = some ⟨name, .fixed q⟩ ∧ f q = .next t := by
  unfold withFixedPayload
  split <;> simp_all

/-- `REL` frees an idle busy antenna and does nothing to a free one (40_antenna.md R111). -/
theorem release_eq_next {s t : State} :
    release s = .next t ↔
      (s.ant.busy = false ∧ t = s) ∨ (s.ant.busy = true ∧ generatorIdle s = true ∧ t = free s) := by
  unfold release
  split
  · split <;> simp_all [next_eq_next, -Host.Outcome.next.injEq]
  · simp_all [next_eq_next, -Host.Outcome.next.injEq]

theorem schedule_eq_next {k : Token} {s t : State} :
    schedule k s = .next t ↔ s.cq.length < s.cfg.cqDepth ∧ t = s.setCq (s.cq ++ [k]) := by
  unfold schedule
  split <;> simp_all [next_eq_next, -Host.Outcome.next.injEq]

/-- `TERM` does nothing to a terminated generator, and sets the flag and queues the token of another
(44_dispatcher.md R195). -/
theorem terminate_eq_next {s t : State} :
    terminate s = .next t ↔
      (∃ tx p, s.gen = .pulse tx p ∧ p.terminated = true ∧ t = s) ∨
      (∃ tx f, s.gen = .fixed tx f ∧ f.terminated = true ∧ t = s) ∨
      (∃ tx p, s.gen = .pulse tx p ∧ p.terminated = false ∧ s.cq.length < s.cfg.cqDepth ∧
        t = (s.setGen (.pulse tx { p with terminated := true })).setCq (s.cq ++ [⟨.cleanup, tx⟩])) ∨
      (∃ tx f, s.gen = .fixed tx f ∧ f.terminated = false ∧ s.cq.length < s.cfg.cqDepth ∧
        t = (s.setGen (.fixed tx { f with terminated := true })).setCq (s.cq ++ [⟨.cleanup, tx⟩])) := by
  unfold terminate
  split
  case h_1 h => simp [h]
  case h_2 tx p h =>
    simp only [h, Gen.pulse.injEq, reduceCtorEq, false_and, exists_false, or_false, false_or]
    split <;> simp_all [schedule_eq_next, next_eq_next, -Host.Outcome.next.injEq]
  case h_3 tx f h =>
    simp only [h, Gen.fixed.injEq, reduceCtorEq, false_and, exists_false, false_or]
    split <;> simp_all [schedule_eq_next, next_eq_next, -Host.Outcome.next.injEq]

@[simp] theorem generatorIdle_stopGenerator (s : State) : generatorIdle (stopGenerator s) = true := by
  simp [generatorIdle, Gen.tag]

/-- `CLEANUP` never stops: it turns the timers off, makes the generator invalid, frees the antenna and notifies
(44_dispatcher.md R198). -/
theorem cleanUp_eq (tx : TxRef) (s : State) :
    cleanUp tx s = .next
      ((if s.ant.busy then free (stopGenerator s) else stopGenerator s).addLog (.notify (.completed tx))) := by
  unfold cleanUp release
  simp only [stopGenerator_ant, generatorIdle_stopGenerator, if_true]
  split <;> rfl

theorem withGoodDescriptor_eq_next {s t : State} {tx : TxRef} {f : Descriptor → Run State} :
    withGoodDescriptor s tx f = .next t ↔
      ∃ d, readDescriptor s tx = some d ∧ descriptorOk d = true ∧ f d = .next t := by
  unfold withGoodDescriptor
  split
  · split <;> simp_all
  · simp_all

/-- `BEGIN` answers through its fault branch or through its success branch, and only for the admitted descriptor, an
idle generator and a well-formed descriptor (41_generator_interface.md R130). -/
theorem beginWith_eq_next {tx : TxRef} {hw : Bool} {s t : State} {onFault onOk : State → Run State} :
    beginWith tx hw s onFault onOk = .next t ↔
      admittedIs s tx = true ∧ generatorIdle s = true ∧
      ∃ d, readDescriptor s tx = some d ∧ descriptorOk d = true ∧
        ((hw = false ∧ onFault s = .next t) ∨
          (hw = true ∧ ∃ u, loadGenerator tx d.variant s = .next u ∧ onOk u = .next t)) := by
  unfold beginWith
  split
  · split
    · rw [withGoodDescriptor_eq_next]
      cases hw <;> simp_all [andThen_eq_next]
    · simp_all
  · simp_all

@[simp] theorem loadFixed_eq (tx : TxRef) (s : State) :
    loadFixed tx s = .next ((s.setGen (.fixed tx ⟨0, 0, 0, 0, false⟩)).setTmr { s.tmr with fixedOn := true }) := rfl

theorem loadPulse_eq_next {tx : TxRef} {s t : State} :
    loadPulse tx s = .next t ↔
      fits s.cfg (s.cfg.syncCycles + s.cfg.waitCycles) = true ∧
      t = (s.setGen (.pulse tx ⟨0, 0, false, 0, false, s.cfg.syncCycles + s.cfg.waitCycles, 0, false⟩)).setTmr
        { s.tmr with baseLevel := false, baseOn := true } := by
  unfold loadPulse
  rw [requireFits_eq_next]
  simp [next_eq_next, -Host.Outcome.next.injEq]

theorem finish_eq_next {s t : State} : finish s = .next t ↔ t = s.setReply .nothing := by
  simp [finish, next_eq_next, -Host.Outcome.next.injEq]

/-- The four stages of a rising edge (42_pulse_code.md R150), with the guard of each. -/
theorem riseStage_eq_next {tx : TxRef} {p : PulseRegs} {s t : State} :
    riseStage tx p s = .next t ↔
      (p.c < s.cfg.syncCycles ∧ t = s.setOut true) ∨
      (s.cfg.syncCycles ≤ p.c ∧ p.c < p.nextRepStart ∧ t = s.setOut false) ∨
      (s.cfg.syncCycles ≤ p.c ∧ p.nextRepStart ≤ p.c ∧ ∃ name q,
        readDescriptor s tx = some ⟨name, .pulse q⟩ ∧
        ((p.bitIdx < q.L ∧ stageCode tx p q s = .next t) ∨
          (q.L ≤ p.bitIdx ∧ stageRepeatCheck tx p q s = .next t))) := by
  unfold riseStage stageSync stageWait
  split
  case isTrue h => simp [h, next_eq_next, -Host.Outcome.next.injEq, not_le.mpr h]
  case isFalse h =>
    split
    case isTrue h2 => simp [h, not_lt.mp h, h2, next_eq_next, -Host.Outcome.next.injEq, not_le.mpr h2]
    case isFalse h2 =>
      simp only [h, not_lt.mp h, h2, not_lt.mp h2, false_and, and_false, true_and, false_or,
        withPulsePayload_eq_next]
      refine exists_congr fun _ => exists_congr fun q => and_congr_right fun _ => ?_
      split
      case isTrue h3 => simp [h3, not_le.mpr h3]
      case isFalse h3 => simp [h3, not_lt.mp h3]

theorem stageCode_eq_next {tx : TxRef} {p : PulseRegs} {q : PulsePayload} {s t : State} :
    stageCode tx p q s = .next t ↔
      ∃ b, codeBit q p.bitIdx = some b ∧ fits s.cfg (p.bitIdx + 1) = true ∧
        fits s.cfg (tickBudget s.cfg b) = true ∧
        t = s.setGen (.pulse tx { p with
          bitIdx := p.bitIdx + 1, oscBudget := tickBudget s.cfg b, oscLevel := false, oscRunning := true }) := by
  unfold stageCode
  split <;> simp_all [requireFits_eq_next, next_eq_next, -Host.Outcome.next.injEq]

theorem stageRepeatCheck_eq_next {tx : TxRef} {p : PulseRegs} {q : PulsePayload} {s t : State} :
    stageRepeatCheck tx p q s = .next t ↔
      fits s.cfg (p.repsSent + 1) = true ∧
      ((q.R ≤ p.repsSent + 1 ∧
          terminate ((s.setGen (.pulse tx { p with repsSent := p.repsSent + 1 })).setOut false) = .next t) ∨
        (p.repsSent + 1 < q.R ∧ repStartFits s.cfg q.L (p.repsSent + 1) = true ∧
          t = s.setGen (.pulse tx { p with
            repsSent := p.repsSent + 1, bitIdx := 0, nextRepStart := repStart s.cfg q.L (p.repsSent + 1) }))) := by
  unfold stageRepeatCheck nextPulseRep
  rw [requireFits_eq_next]
  refine and_congr_right fun _ => ?_
  split
  case isTrue h => simp [h, not_lt.mpr h]
  case isFalse h =>
    simp only [h, not_le.mp h, false_and, true_and, false_or]
    split <;> simp_all [next_eq_next, -Host.Outcome.next.injEq]

/-- The three branches of a fixed-code tick (43_fixed_code.md R180), with the guard of each. -/
theorem tickBranch_eq_next {tx : TxRef} {f : FixedRegs} {s t : State} :
    tickBranch tx f s = .next t ↔
      (f.t < f.nextRepStart ∧ t = s.setOut false) ∨
      (f.nextRepStart ≤ f.t ∧ ∃ name q, readDescriptor s tx = some ⟨name, .fixed q⟩ ∧
        ((f.bitIdx = bitCount q ∧ branchRepCheck tx f q s = .next t) ∨
          (f.bitIdx ≠ bitCount q ∧ branchEmit tx f q s = .next t))) := by
  unfold tickBranch branchHold
  split
  case isTrue h => simp [h, next_eq_next, -Host.Outcome.next.injEq, not_le.mpr h]
  case isFalse h =>
    simp only [h, not_lt.mp h, false_and, true_and, false_or, withFixedPayload_eq_next]
    refine exists_congr fun _ => exists_congr fun q => and_congr_right fun _ => ?_
    split <;> simp_all

theorem branchRepCheck_eq_next {tx : TxRef} {f : FixedRegs} {q : FixedPayload} {s t : State} :
    branchRepCheck tx f q s = .next t ↔
      fits s.cfg (f.repIdx + 1) = true ∧
      ((q.repetitions ≤ f.repIdx + 1 ∧
          terminate ((s.setOut false).setGen (.fixed tx { f with repIdx := f.repIdx + 1 })) = .next t) ∨
        (f.repIdx + 1 < q.repetitions ∧ fits s.cfg (f.t + q.ticksBetween) = true ∧
          t = (s.setOut false).setGen (.fixed tx { f with
            repIdx := f.repIdx + 1, nextRepStart := f.t + q.ticksBetween, bitIdx := 0 }))) := by
  unfold branchRepCheck nextFixedRep
  rw [requireFits_eq_next]
  refine and_congr_right fun _ => ?_
  split
  case isTrue h => simp [h, not_lt.mpr h]
  case isFalse h =>
    simp only [h, not_le.mp h, false_and, true_and, false_or, requireFits_eq_next]
    simp [next_eq_next, -Host.Outcome.next.injEq]

theorem branchEmit_eq_next {tx : TxRef} {f : FixedRegs} {q : FixedPayload} {s t : State} :
    branchEmit tx f q s = .next t ↔
      ∃ l, dataBit q f.bitIdx = some l ∧ fits s.cfg (f.bitIdx + 1) = true ∧
        t = (s.setOut l).setGen (.fixed tx { f with bitIdx := f.bitIdx + 1 }) := by
  unfold branchEmit
  split <;> simp_all [requireFits_eq_next, next_eq_next, -Host.Outcome.next.injEq]

/-! ### Enabling conditions -/

theorem briseEnabled_iff {s : State} :
    briseEnabled s = true ↔ s.gen.tag = .pulse ∧ s.tmr.baseOn = true ∧ s.tmr.baseLevel = false := by
  simp [briseEnabled, and_assoc]

theorem bfallEnabled_iff {s : State} :
    bfallEnabled s = true ↔ s.gen.tag = .pulse ∧ s.tmr.baseOn = true ∧ s.tmr.baseLevel = true := by
  simp [bfallEnabled, and_assoc]

theorem stickEnabled_iff {s : State} :
    stickEnabled s = true ↔ s.gen.tag = .pulse ∧ s.tmr.baseOn = true := by
  simp [stickEnabled]

theorem ftickEnabled_iff {s : State} :
    ftickEnabled s = true ↔ s.gen.tag = .fixed ∧ s.tmr.fixedOn = true := by
  simp [ftickEnabled]

theorem generatorIdle_iff {s : State} :
    generatorIdle s = true ↔ s.gen = .invalid ∧ s.tmr.baseOn = false ∧ s.tmr.fixedOn = false := by
  cases h : s.gen <;> simp [generatorIdle, Gen.tag, h]

theorem admittedIs_iff {s : State} {tx : TxRef} :
    admittedIs s tx = true ↔ s.ant.busy = true ∧ s.ant.active = some tx := by
  simp [admittedIs]

/-! ### The meanings: when each answers a next state, and which -/

theorem execBrise_eq_next {s t : State} :
    execBrise s = .next t ↔
      s.tmr.baseOn = true ∧ s.tmr.baseLevel = false ∧ ∃ tx p u, s.gen = .pulse tx p ∧
        riseStage tx p s = .next u ∧ t = (setBaseLevel true u).setReply .nothing := by
  unfold execBrise
  split
  case isTrue h =>
    obtain ⟨-, h2, h3⟩ := briseEnabled_iff.mp h
    simp only [andThen_eq_next, withPulse_eq_next, finish_eq_next, h2, h3, true_and]
    constructor
    · rintro ⟨u, ⟨tx, p, hg, hu⟩, ht⟩
      exact ⟨tx, p, u, hg, hu, ht⟩
    · rintro ⟨tx, p, u, hg, hu, ht⟩
      exact ⟨u, ⟨tx, p, hg, hu⟩, ht⟩
  case isFalse h =>
    simp only [reduceCtorEq, false_iff]
    rintro ⟨h2, h3, tx, p, u, hg, -⟩
    exact h (briseEnabled_iff.mpr ⟨by simp [hg, Gen.tag], h2, h3⟩)

theorem execBfall_eq_next {s t : State} :
    execBfall s = .next t ↔
      s.tmr.baseOn = true ∧ s.tmr.baseLevel = true ∧ ∃ tx p, s.gen = .pulse tx p ∧ fits s.cfg (p.c + 1) = true ∧
        t = (setBaseLevel false ((s.setGen (.pulse tx
          { p with oscRunning := false, oscLevel := false, c := p.c + 1 })).setOut false)).setReply .nothing := by
  unfold execBfall
  split
  case isTrue h =>
    obtain ⟨-, h2, h3⟩ := bfallEnabled_iff.mp h
    simp [withPulse_eq_next, requireFits_eq_next, finish_eq_next, h2, h3]
  case isFalse h =>
    simp only [reduceCtorEq, false_iff]
    rintro ⟨h2, h3, tx, p, hg, -⟩
    exact h (bfallEnabled_iff.mpr ⟨by simp [hg, Gen.tag], h2, h3⟩)

theorem execStick_eq_next {s t : State} :
    execStick s = .next t ↔
      s.tmr.baseOn = true ∧ ∃ tx p, s.gen = .pulse tx p ∧
        t = (if p.oscRunning then oscTick tx p s else s).setReply .nothing := by
  unfold execStick
  split
  case isTrue h =>
    obtain ⟨-, h2⟩ := stickEnabled_iff.mp h
    simp only [withPulse_eq_next, h2, true_and]
    refine exists_congr fun tx => exists_congr fun p => and_congr_right fun _ => ?_
    split <;> exact finish_eq_next
  case isFalse h =>
    simp only [reduceCtorEq, false_iff]
    rintro ⟨h2, tx, p, hg, -⟩
    exact h (stickEnabled_iff.mpr ⟨by simp [hg, Gen.tag], h2⟩)

theorem execFtick_eq_next {s t : State} :
    execFtick s = .next t ↔
      s.tmr.fixedOn = true ∧ ∃ tx f u, s.gen = .fixed tx f ∧ tickBranch tx f s = .next u ∧
        ∃ tx' g, u.gen = .fixed tx' g ∧ fits u.cfg (g.t + 1) = true ∧
          t = (u.setGen (.fixed tx' { g with t := g.t + 1 })).setReply .nothing := by
  unfold execFtick
  split
  case isTrue h =>
    obtain ⟨-, h2⟩ := ftickEnabled_iff.mp h
    simp only [andThen_eq_next, withFixed_eq_next, advanceTick, requireFits_eq_next, finish_eq_next, h2, true_and]
    constructor
    · rintro ⟨u, ⟨tx, f, hg, hu⟩, ht⟩
      exact ⟨tx, f, u, hg, hu, ht⟩
    · rintro ⟨tx, f, u, hg, hu, ht⟩
      exact ⟨u, ⟨tx, f, hg, hu⟩, ht⟩
  case isFalse h =>
    simp only [reduceCtorEq, false_iff]
    rintro ⟨h2, tx, f, u, hg, -⟩
    exact h (ftickEnabled_iff.mpr ⟨by simp [hg, Gen.tag], h2⟩)

theorem execRel_eq_next {s t : State} :
    execRel s = .next t ↔
      (s.ant.busy = false ∧ t = s.setReply .nothing) ∨
      (s.ant.busy = true ∧ generatorIdle s = true ∧ t = (free s).setReply .nothing) := by
  unfold execRel
  simp only [andThen_eq_next, release_eq_next, finish_eq_next]
  constructor
  · rintro ⟨a, ⟨h1, rfl⟩ | ⟨h1, h2, rfl⟩, rfl⟩
    · exact .inl ⟨h1, rfl⟩
    · exact .inr ⟨h1, h2, rfl⟩
  · rintro (⟨h1, rfl⟩ | ⟨h1, h2, rfl⟩)
    · exact ⟨_, .inl ⟨h1, rfl⟩, rfl⟩
    · exact ⟨_, .inr ⟨h1, h2, rfl⟩, rfl⟩

theorem execTerm_eq_next {s t : State} :
    execTerm s = .next t ↔ ∃ u, terminate s = .next u ∧ t = u.setReply .nothing := by
  simp [execTerm, andThen_eq_next, finish_eq_next]

theorem execSched_eq_next {fn : CleanupFn} {tx : TxRef} {s t : State} :
    execSched fn tx s = .next t ↔
      s.cq.length < s.cfg.cqDepth ∧ t = (s.setCq (s.cq ++ [⟨fn, tx⟩])).setReply .nothing := by
  simp [execSched, andThen_eq_next, finish_eq_next, schedule_eq_next, and_assoc]

/-- What `CLEANUP` leaves (44_dispatcher.md R198). -/
def cleanedUp (tx : TxRef) (s : State) : State :=
  ((if s.ant.busy then free (stopGenerator s) else stopGenerator s).addLog (.notify (.completed tx))).setReply .nothing

theorem execCleanup_eq (tx : TxRef) (s : State) : execCleanup tx s = .next (cleanedUp tx s) := by
  simp [execCleanup, cleanUp_eq, finish, cleanedUp]

/-- `DISPATCH` never stops (44_dispatcher.md R197). -/
theorem execDispatch_eq_next {s t : State} :
    execDispatch s = .next t ↔
      (s.cq = [] ∧ t = s.setReply .nothing) ∨
      (∃ k rest, s.cq = k :: rest ∧ t = cleanedUp k.tx (s.setCq rest)) := by
  unfold execDispatch
  split
  case h_1 h => simp [h, finish_eq_next]
  case h_2 k rest h =>
    simp [h, runCleanup, cleanUp_eq, finish, cleanedUp, next_eq_next, -Host.Outcome.next.injEq]

theorem execBegin_eq_next {tx : TxRef} {hw : Bool} {s t : State} :
    execBegin tx hw s = .next t ↔
      admittedIs s tx = true ∧ generatorIdle s = true ∧
      ∃ d, readDescriptor s tx = some d ∧ descriptorOk d = true ∧
        ((hw = false ∧ t = s.setReply .errHardwareFault) ∨
          (hw = true ∧ ∃ u, loadGenerator tx d.variant s = .next u ∧ t = u.setReply .ok)) := by
  unfold execBegin
  rw [beginWith_eq_next]
  simp [next_eq_next, -Host.Outcome.next.injEq]

/-- `REQ` on a busy antenna, with a hardware fault, and accepted (40_antenna.md R113). -/
theorem request_eq_next {tx : TxRef} {hw : Bool} {s t : State} :
    request tx hw s = .next t ↔
      (s.ant.busy = true ∧ t = (s.addLog (.notify (.busy tx))).setReply .rejectedBusy) ∨
      (s.ant.busy = false ∧ generatorIdle s = true ∧
        ∃ d, readDescriptor s tx = some d ∧ descriptorOk d = true ∧
          ((hw = false ∧ t = (free (takeAntenna tx s)).setReply .failedHardwareFault) ∨
            (hw = true ∧ ∃ u, loadGenerator tx d.variant (takeAntenna tx s) = .next u ∧
              t = (u.addLog (.notify (.processing tx))).setReply .accepted))) := by
  unfold request
  split
  case isTrue h => simp [h, next_eq_next, -Host.Outcome.next.injEq]
  case isFalse h =>
    have hb : s.ant.busy = false := by simpa using h
    have hi : generatorIdle (takeAntenna tx s) = generatorIdle s := by simp [generatorIdle]
    have hr : readDescriptor (takeAntenna tx s) tx = readDescriptor s tx := by simp [readDescriptor]
    simp only [beginWith_eq_next, hb, hi, hr, admittedIs_iff, takeAntenna_ant, and_self, true_and, false_and, false_or,
      Bool.false_eq_true]
    refine and_congr_right fun hidle => exists_congr fun d => and_congr_right fun _ => and_congr_right fun _ => ?_
    simp only [andThen_eq_next, release_eq_next, takeAntenna_ant, hi, hidle]
    simp [next_eq_next, -Host.Outcome.next.injEq]

end Sys2Proof.Machine
end

