-- ==== Sys2Proof/Laws/PerInstr.lean ====
section
/-! SUPPORT. One lemma per operation about its word as syntax (30_encoding.md R93, R95): the two top bits name the
operation's class, and the word names the operation whatever operands travel beside it. -/

namespace Sys2Proof.Laws.WordClass

open Sys2Proof

/-- `op[7:6]` of a class (30_encoding.md R93). -/
def classBits (c : OpClass) : Nat :=
  match c with
  | .task => 0
  | .event => 1
  | .primitive => 2

/-- The family's statement about an operation as syntax. -/
def Statement (i : Instr) : Prop :=
  opCls (encodeWord i) = classBits (opClassOf i) ∧
  ∀ a : Operands, (decodeWord (encodeWord i) a).map encodeWord = some (encodeWord i)

theorem of_word {i : Instr} (w : OpWord) (h : encodeWord i = w) (hc : opCls w = classBits (opClassOf i))
    (hd : ∀ a : Operands, (decodeWord w a).map encodeWord = some w) : Statement i := by
  subst h
  exact ⟨hc, hd⟩

theorem acq (tx : TxRef) : Statement (.acq tx) := of_word 0x00#8 rfl rfl fun _ => rfl

theorem rel : Statement .rel := of_word 0x01#8 rfl rfl fun _ => rfl

theorem bsy : Statement .bsy := of_word 0x02#8 rfl rfl fun _ => rfl

theorem begin (tx : TxRef) (hwOk : Bool) : Statement (.begin tx hwOk) := of_word 0x03#8 rfl rfl fun _ => rfl

theorem dispatch : Statement .dispatch := of_word 0x04#8 rfl rfl fun _ => rfl

theorem req (tx : TxRef) (hwOk : Bool) : Statement (.req tx hwOk) := of_word 0x05#8 rfl rfl fun _ => rfl

theorem reqi (index : Nat) (hwOk : Bool) : Statement (.reqi index hwOk) := of_word 0x06#8 rfl rfl fun _ => rfl

theorem brise : Statement .brise := of_word 0x40#8 rfl rfl fun _ => rfl

theorem bfall : Statement .bfall := of_word 0x41#8 rfl rfl fun _ => rfl

theorem stick : Statement .stick := of_word 0x42#8 rfl rfl fun _ => rfl

theorem ftick : Statement .ftick := of_word 0x43#8 rfl rfl fun _ => rfl

theorem setout (l : Level) : Statement (.setout l) := by
  cases l
  · exact of_word 0x80#8 rfl rfl fun _ => rfl
  · exact of_word 0x81#8 rfl rfl fun _ => rfl

theorem term : Statement .term := of_word 0x82#8 rfl rfl fun _ => rfl

theorem sched (fn : CleanupFn) (tx : TxRef) : Statement (.sched fn tx) := of_word 0x83#8 rfl rfl fun _ => rfl

theorem cleanup (tx : TxRef) : Statement (.cleanup tx) := of_word 0x84#8 rfl rfl fun _ => rfl

end Sys2Proof.Laws.WordClass
end

