-- ==== Sys2Proof/Laws/Step.lean ====
section
/-! SUPPORT. What the three kinds of input can do, and what a step can do. -/

namespace Sys2Proof.Machine

theorem bootOpen_iff {s : State} :
    bootOpen s = true ↔
      s.bootClosed = false ∧ s.ant.busy = false ∧ generatorIdle s = true ∧ s.cq = [] ∧ s.log = [] := by
  simp [bootOpen, and_assoc]

/-- A boot is accepted with a legal configuration while boot is open, and closes it (70_reset_and_hazards.md R252 to
R254). -/
theorem bootWith_eq_next {b : Boot} {s t : State} :
    bootWith b s = .next t ↔
      b.cfg.legal = true ∧ bootOpen s = true ∧
      t = { s with
        cfg := b.cfg, ant := { s.ant with hookBegin := b.hookBegin, hookEnd := b.hookEnd }, signals := b.signals,
        bootClosed := true, reply := .nothing } := by
  unfold bootWith
  split <;> simp_all [finish_eq_next, State.setReply]

/-- A descriptor write takes effect unless it would change a borrowed descriptor (20_memory.md R78). -/
theorem writeDescriptor_eq_next {tx : TxRef} {d : Option Descriptor} {s t : State} :
    writeDescriptor tx d s = .next t ↔
      (borrowed s tx = true → readDescriptor s tx = d) ∧
      t = { s with store := Memory.write s.store tx d, reply := .nothing } := by
  unfold writeDescriptor
  split <;> simp_all [finish_eq_next, State.setReply]

/-- A word is issued with a legal configuration, if it decodes for its origin to an operation its context may run
(30_encoding.md R94, R97; 60_exceptions.md R231, R240). -/
theorem issue_eq_ok {o : Origin} {w : OpWord} {a : Operands} {s : State} {i : Instr} :
    issue o w a s = .ok i ↔
      s.cfg.legal = true ∧ decode (originOutside o) w a = .ok i ∧ contextOk o i = true := by
  unfold issue
  split
  case isFalse h => simp [h]
  case isTrue h =>
    split
    case h_1 e hd => simp [hd]
    case h_2 j hd =>
      split
      case isTrue hc =>
        simp only [h, hd, Except.ok.injEq, true_and]
        exact ⟨fun e => ⟨e, e ▸ hc⟩, And.left⟩
      case isFalse hc =>
        simp only [h, hd, Except.ok.injEq, true_and, reduceCtorEq, false_iff, not_and]
        exact fun e => e ▸ hc

/-- A step idles, runs an operation, writes a descriptor or boots (00_scope.md R14, R15). -/
theorem step_eq_next {s t : State} :
    step s = .next t ↔
      (s.inputs = [] ∧ t = s) ∨
      (∃ o w a rest i, s.inputs = .operation o w a :: rest ∧ issue o w a s = .ok i ∧
        exec i (noteRequest i { s with inputs := rest }) = .next t) ∨
      (∃ tx d rest, s.inputs = .descriptor tx d :: rest ∧ writeDescriptor tx d { s with inputs := rest } = .next t) ∨
      (∃ b rest, s.inputs = .boot b :: rest ∧ bootWith b { s with inputs := rest } = .next t) := by
  unfold step
  split
  case h_1 h => simp [h, next_eq_next, -Host.Outcome.next.injEq]
  case h_2 x rest h =>
    cases x with
    | operation o w a =>
      cases hi : issue o w a s <;> simp [h, hi]
    | descriptor tx d => simp [h]
    | boot b => simp [h]

end Sys2Proof.Machine
end

