-- ==== Sys2Proof/Tests/Slice0.lean ====
section
/-! SUPPORT. The model's own tests. Expected results are those of 95_test_vectors.md (S1 to S3, V1 to V45, PRG5) and of
the examples of the rules, named beside each. A theorem test_witness_<Name> shows that the hypotheses of
Obligations.<Name> can be met together, clause by clause. -/

namespace Sys2Proof.Tests

open Sys2Proof Sys2Proof.Machine Sys2Proof.Safety

/-! ### Helpers: what an outcome holds, and small states -/

def next? (x : Run State) : Option State :=
  match x with
  | .next s => some s
  | .fault _ => none
  | .refused _ => none

def refusal? (x : Run State) : Option Refusal :=
  match x with
  | .refused r => some r
  | .fault _ => none
  | .next _ => none

def fault? (x : Run State) : Option Fault :=
  match x with
  | .fault r => some r
  | .next _ => none
  | .refused _ => none

/-- `txP` of 95_test_vectors.md part 2. -/
def qP : PulsePayload := { code := [1, 0], L := 2, R := 1 }

/-- The descriptor of scenario S1. -/
def qS : PulsePayload := { code := [1, 0, 1, 1], L := 4, R := 2 }

/-- `txF` of 95_test_vectors.md part 2. -/
def qF : FixedPayload := { data := [0xA0#8], codeLen := 1, bitRate := 0, repetitions := 1, ticksBetween := 0 }

/-- The descriptor of scenario S3. -/
def qG : FixedPayload := { data := [0xA0#8], codeLen := 1, bitRate := 0, repetitions := 2, ticksBetween := 3 }

/-- An ill-formed descriptor of V17. -/
def qBad : PulsePayload := { code := [], L := 0, R := 1 }

def store : List (TxRef × Descriptor) :=
  [(1, ⟨"P", .pulse qP⟩), (2, ⟨"F", .fixed qF⟩), (3, ⟨"S", .pulse qS⟩), (4, ⟨"G", .fixed qG⟩), (5, ⟨"B", .pulse qBad⟩)]

/-- The reset state with both hooks filled, `SIGNALS(1) = txP`, and the configuration of V20. -/
def idle : State :=
  { State.init Config.atReset [(1, 1)] store with
    ant := { busy := false, active := none, hookBegin := .filled, hookEnd := .filled } }

def admitted (tx : TxRef) : State :=
  { idle with
    ant := { busy := true, active := some tx, hookBegin := .filled, hookEnd := .filled }, bootClosed := true }

/-- The registers `BEGIN` loads (V12). -/
def p0 : PulseRegs :=
  { c := 0, bitIdx := 0, oscRunning := false, oscBudget := 0, oscLevel := false, nextRepStart := 5, repsSent := 0,
    terminated := false }

/-- The registers `BEGIN` loads (V13). -/
def f0 : FixedRegs := { t := 0, bitIdx := 0, repIdx := 0, nextRepStart := 0, terminated := false }

/-- Scenario S1 running, at registers `p`, in the high phase or not, the line at a level. -/
def sending (p : PulseRegs) (high out : Level) : State :=
  { admitted 3 with
    gen := .pulse 3 p, tmr := { baseOn := true, baseLevel := high, fixedOn := false }, out := out
    cq := tokensOf 3 p.terminated }

/-- Scenario S3 running, at registers `f`. -/
def ticking (f : FixedRegs) (out : Level) : State :=
  { admitted 4 with
    gen := .fixed 4 f, tmr := { baseOn := false, baseLevel := false, fixedOn := true }, out := out
    cq := tokensOf 4 f.terminated }

/-- S1 before the check of cycle 14. -/
def p14 : PulseRegs := { p0 with c := 14, bitIdx := 4, nextRepStart := 10, repsSent := 1 }

/-- S1 after the check of cycle 14. -/
def pEnd : PulseRegs := { p14 with repsSent := 2, terminated := true }

/-- S1 in cycle 5, bit 1, after one sub-carrier tick. -/
def pBurst : PulseRegs := { p0 with c := 5, bitIdx := 1, oscRunning := true, oscBudget := 5, oscLevel := true }

/-- S3 before tick 19. -/
def f19 : FixedRegs := { t := 19, bitIdx := 8, repIdx := 1, nextRepStart := 11, terminated := false }

/-- S3 after tick 19. -/
def fEnd : FixedRegs := { t := 20, bitIdx := 8, repIdx := 2, nextRepStart := 11, terminated := true }

def presenting (o : Origin) (w : OpWord) (s : State) : State := { s with inputs := [.operation o w Operands.zero] }

/-! ### WellFormed: an ill-formed term for each check (PRG5, V17) -/

theorem test_config_legal : Config.atReset.legal = true := by decide

theorem test_config_budgets : ({ Config.atReset with askTicksOne := 2 } : Params).legal = false := by decide

theorem test_config_budgets_next : ({ Config.atReset with askTicksOne := 3 } : Params).legal = true := by decide

theorem test_config_queue : ({ Config.atReset with cqDepth := 0 } : Params).legal = false := by decide

theorem test_config_width : ({ Config.atReset with ctrW := some 0 } : Params).legal = false := by decide

theorem test_pulse_well_formed : Descriptor.wellFormed ⟨"S", .pulse qS⟩ = true := by decide

theorem test_pulse_empty_code : Descriptor.wellFormed ⟨"B", .pulse qBad⟩ = false := by decide

theorem test_pulse_no_repetition : Descriptor.wellFormed ⟨"B", .pulse { code := [1], L := 1, R := 0 }⟩ = false := by
  decide

theorem test_pulse_element_two : Descriptor.wellFormed ⟨"B", .pulse { code := [2], L := 1, R := 1 }⟩ = false := by decide

theorem test_pulse_length : Descriptor.wellFormed ⟨"B", .pulse { code := [1, 0], L := 1, R := 1 }⟩ = false := by decide

theorem test_fixed_well_formed : Descriptor.wellFormed ⟨"G", .fixed qG⟩ = true := by decide

theorem test_fixed_empty : Descriptor.wellFormed ⟨"B", .fixed { qF with data := [], codeLen := 0 }⟩ = false := by decide

theorem test_fixed_no_repetition : Descriptor.wellFormed ⟨"B", .fixed { qF with repetitions := 0 }⟩ = false := by decide

theorem test_fixed_length : Descriptor.wellFormed ⟨"B", .fixed { qF with codeLen := 2 }⟩ = false := by decide

theorem test_store_canonical : Memory.wf store = true := by decide

theorem test_store_out_of_order : Memory.wf [(2, ⟨"F", .fixed qF⟩), (1, ⟨"P", .pulse qP⟩)] = false := by decide

theorem test_store_repeated : Memory.wf [(1, ⟨"F", .fixed qF⟩), (1, ⟨"P", .pulse qP⟩)] = false := by decide

/-! ### Decoding: every operation's word, written out from 30_encoding.md R95 -/

theorem test_word_acq : decode true 0b00000000#8 { Operands.zero with tx := 3 } = .ok (.acq 3) := by rfl

theorem test_word_rel : decode true 0b00000001#8 Operands.zero = .ok .rel := by rfl

theorem test_word_bsy : decode true 0b00000010#8 Operands.zero = .ok .bsy := by rfl

theorem test_word_begin :
    decode true 0b00000011#8 { Operands.zero with tx := 3, hwOk := true } = .ok (.begin 3 true) := by rfl

theorem test_word_dispatch : decode true 0b00000100#8 Operands.zero = .ok .dispatch := by rfl

theorem test_word_req :
    decode true 0b00000101#8 { Operands.zero with tx := 3, hwOk := true } = .ok (.req 3 true) := by rfl

theorem test_word_reqi :
    decode true 0b00000110#8 { Operands.zero with tx := 3, index := 7 } = .ok (.reqi 7 false) := by rfl

theorem test_word_brise : decode true 0b01000000#8 Operands.zero = .ok .brise := by rfl

theorem test_word_bfall : decode true 0b01000001#8 Operands.zero = .ok .bfall := by rfl

theorem test_word_stick : decode true 0b01000010#8 Operands.zero = .ok .stick := by rfl

theorem test_word_ftick : decode true 0b01000011#8 Operands.zero = .ok .ftick := by rfl

theorem test_word_setout_low : decode false 0b10000000#8 Operands.zero = .ok (.setout false) := by rfl

theorem test_word_setout_high : decode false 0b10000001#8 Operands.zero = .ok (.setout true) := by rfl

theorem test_word_term : decode false 0b10000010#8 Operands.zero = .ok .term := by rfl

theorem test_word_sched :
    decode false 0b10000011#8 { Operands.zero with tx := 3 } = .ok (.sched .cleanup 3) := by rfl

theorem test_word_cleanup : decode false 0b10000100#8 { Operands.zero with tx := 3 } = .ok (.cleanup 3) := by rfl

/-- V45. -/
theorem test_word_reserved :
    [0x07, 0x44, 0x85, 0xC0, 0xFF].map (decodeTableWord 8) = [none, none, none, none, none] := by decide

/-- 30_encoding.md R98, R99: numeric codes. -/
theorem test_codes :
    [GenTag.invalid, .pulse, .fixed].map tagCode = [0, 1, 2] ∧ tagOfCode 3 = none ∧
    [Reply.accepted, .rejectedBusy, .unknownSignal, .failedHardwareFault].map replyCode = [some 0, some 1, some 2, some 3] ∧
    [Notification.processing 0, .busy 0, .completed 0, .unknownSignal 0].map notificationCode = [0, 1, 2, 3] := by
  decide

/-! ### One step of one operation -/

/-- S2, V1. -/
theorem test_acq_free : (next? (exec (.acq 1) idle)).map (fun s => (s.ant.busy, s.ant.active, s.log, s.reply)) =
    some (true, some 1, [.hookBegin 1], .admitted) := by decide

/-- S2, V1. -/
theorem test_acq_busy : next? (exec (.acq 2) (admitted 1)) = some { admitted 1 with reply := .rejectedBusy } := by decide

/-- V2. -/
theorem test_rel_frees : (next? (exec .rel (admitted 1))).map (fun s => (s.ant.busy, s.ant.active, s.log)) =
    some (false, none, [.hookEnd]) := by decide

/-- V10. -/
theorem test_rel_in_flight : refusal? (exec .rel (sending p0 false false)) = some .releaseInFlight := by decide

/-- V1. -/
theorem test_bsy : [idle, admitted 1].map (fun s => (next? (exec .bsy s)).map (·.reply)) =
    [some (.bit false), some (.bit true)] := by decide

/-- V12. -/
theorem test_begin_pulse : next? (exec (.begin 3 true) (admitted 3)) =
    some { sending p0 false false with reply := .ok } := by decide

/-- V17: the descriptor check precedes the fault test. -/
theorem test_begin_bad_descriptor : refusal? (exec (.begin 5 false) (admitted 5)) = some .badDescriptor := by decide

/-- V42. -/
theorem test_dispatch_cleans_up :
    (next? (exec .dispatch (sending pEnd true false))).map (fun s => (s.cq, s.gen, s.tmr, s.ant.busy, s.log)) =
      some ([], .invalid, ⟨false, false, false⟩, false, [.hookEnd, .notify (.completed 3)]) := by decide

/-- V38. -/
theorem test_dispatch_empty : next? (exec .dispatch idle) = some idle := by decide

/-- V6. -/
theorem test_req_accepted : (next? (exec (.req 3 true) idle)).map (fun s => (s.gen, s.log, s.reply)) =
    some (.pulse 3 p0, [.hookBegin 3, .notify (.processing 3)], .accepted) := by decide

/-- V8. -/
theorem test_req_fault : (next? (exec (.req 1 false) idle)).map (fun s => (s.ant.busy, s.gen, s.log, s.reply)) =
    some (false, .invalid, [.hookBegin 1, .hookEnd], .failedHardwareFault) := by decide

/-- V9: the look-up comes first. -/
theorem test_reqi_unknown_while_busy : (next? (exec (.reqi 7 true) (admitted 1))).map (fun s => (s.log, s.reply)) =
    some ([.notify (.unknownSignal 7)], .unknownSignal) := by decide

/-- V9. -/
theorem test_reqi_known : (next? (exec (.reqi 1 true) idle)).map (fun s => (s.gen, s.reply)) =
    some (.pulse 1 p0, .accepted) := by decide

/-- S1, cycle 5 with V20's budget of a 1 bit; the line does not rise at the edge. -/
theorem test_brise_code : next? (exec .brise (sending { p0 with c := 5 } false false)) =
    some (sending { p0 with c := 5, bitIdx := 1, oscRunning := true, oscBudget := 6 } true false) := by decide

/-- S1, cycle 9: the repetition formula takes the count after the increment. -/
theorem test_brise_repeat_check : next? (exec .brise (sending { p0 with c := 9, bitIdx := 4 } false false)) =
    some (sending { p0 with c := 9, repsSent := 1, nextRepStart := 10 } true false) := by decide

/-- 42_pulse_code.md R155, example. -/
theorem test_bfall : next? (exec .bfall (sending pBurst true true)) =
    some (sending { p0 with c := 6, bitIdx := 1, oscBudget := 5 } false false) := by decide

/-- V19. -/
theorem test_bfall_low_phase : refusal? (exec .bfall (sending p0 false false)) = some .timerNotEnabled := by decide

/-- V21, step 3. -/
theorem test_stick_flips :
    next? (exec .stick (sending { pBurst with oscBudget := 1, oscLevel := false } true false)) =
      some (sending { pBurst with oscBudget := 0, oscLevel := true } true true) := by decide

/-- V21, step 4. -/
theorem test_stick_exhausted : next? (exec .stick (sending { pBurst with oscBudget := 0 } true true)) =
    some (sending { pBurst with oscBudget := 0, oscLevel := false, oscRunning := false } true false) := by decide

/-- V36: bit 5 of 0xA0. -/
theorem test_ftick_emits : next? (exec .ftick (ticking { f0 with t := 2, bitIdx := 2 } false)) =
    some (ticking { f0 with t := 3, bitIdx := 3 } true) := by decide

/-- V36: the repetition check at tick 8. -/
theorem test_ftick_check : next? (exec .ftick (ticking { f0 with t := 8, bitIdx := 8 } true)) =
    some (ticking { f0 with t := 9, repIdx := 1, nextRepStart := 11 } false) := by decide

/-- V18. -/
theorem test_setout : [false, true].map (fun l => next? (exec (.setout l) (sending p0 false false))) =
    [some (sending p0 false false), some (sending p0 false true)] := by decide

/-- V39. -/
theorem test_term_first : next? (exec .term (sending p14 true false)) =
    some (sending { p14 with terminated := true } true false) := by decide

/-- V40. -/
theorem test_term_second : next? (exec .term (sending pEnd true false)) = some (sending pEnd true false) := by decide

/-- 44_dispatcher.md R196, example. -/
theorem test_sched : (next? (exec (.sched .cleanup 1) idle)).map (·.cq) = some [⟨.cleanup, 1⟩] := by decide

/-- 44_dispatcher.md R196: a full queue. -/
theorem test_sched_full : refusal? (exec (.sched .cleanup 1) (sending pEnd true false)) = some .queueFull := by decide

/-- V42, the part of `CLEANUP`. -/
theorem test_cleanup : (next? (exec (.cleanup 3) (sending pEnd true false))).map (fun s => (s.gen, s.ant.busy, s.log)) =
    some (.invalid, false, [.hookEnd, .notify (.completed 3)]) := by decide

/-! ### One step of the machine -/

/-- V44, V45: contexts, reserved and internal words. -/
theorem test_step_refusals :
    [presenting .insideHandler 0x00#8 idle, presenting .insideTask 0x83#8 idle, presenting .software 0x82#8 idle,
      presenting .timer 0x07#8 idle, presenting .timer 0x40#8 idle].map (fun s => refusal? (step s)) =
      [some .wrongContext, some .wrongContext, some .internalOnly, some .reservedOp, some .timerNotEnabled] := by decide

theorem test_step_fetch_word :
    (next? (step (State.reset.withFetchWord 8 0x00))).map (fun s => (s.ant.active, s.inputs)) = some (some 0, []) := by
  decide

/-! ### Witnesses: states of the invariant -/

theorem test_inv_idle : Inv idle :=
  ⟨by decide, by decide, by decide, ⟨by decide, by decide, by decide⟩, by decide⟩

theorem test_inv_start : Inv (sending p0 false false) := by
  refine ⟨by decide, by decide, by decide, ⟨rfl, rfl, rfl, rfl, rfl, "S", qS, rfl, ?_⟩, by decide⟩
  constructor <;> decide

theorem test_inv_sync_high : Inv (sending { p0 with c := 3 } true true) := by
  refine ⟨by decide, by decide, by decide, ⟨rfl, rfl, rfl, rfl, rfl, "S", qS, rfl, ?_⟩, by decide⟩
  constructor <;> decide

theorem test_inv_burst : Inv (sending pBurst true true) := by
  refine ⟨by decide, by decide, by decide, ⟨rfl, rfl, rfl, rfl, rfl, "S", qS, rfl, ?_⟩, by decide⟩
  constructor <;> decide

theorem test_inv_last_check : Inv (sending p14 false false) := by
  refine ⟨by decide, by decide, by decide, ⟨rfl, rfl, rfl, rfl, rfl, "S", qS, rfl, ?_⟩, by decide⟩
  constructor <;> decide

theorem test_inv_trailing : Inv (sending pEnd true false) := by
  refine ⟨by decide, by decide, by decide, ⟨rfl, rfl, rfl, rfl, rfl, "S", qS, rfl, ?_⟩, by decide⟩
  constructor <;> decide

theorem test_inv_fixed_start : Inv (ticking f0 false) := by
  refine ⟨by decide, by decide, by decide, ⟨rfl, rfl, rfl, rfl, rfl, rfl, "G", qG, rfl, ?_⟩, by decide⟩
  constructor <;> decide

theorem test_inv_fixed_last : Inv (ticking f19 false) := by
  refine ⟨by decide, by decide, by decide, ⟨rfl, rfl, rfl, rfl, rfl, rfl, "G", qG, rfl, ?_⟩, by decide⟩
  constructor <;> decide

theorem test_inv_fixed_trailing : Inv (ticking fEnd false) := by
  refine ⟨by decide, by decide, by decide, ⟨rfl, rfl, rfl, rfl, rfl, rfl, "G", qG, rfl, ?_⟩, by decide⟩
  constructor <;> decide

/-! ### Witnesses: the hypotheses of each obligation, clause by clause -/

theorem test_witness_EncodeAndDecodeAgree :
    opClassOf (.begin 3 true) ≠ .primitive ∧ decode false 0x83#8 { Operands.zero with tx := 3 } = .ok (.sched .cleanup 3) :=
  ⟨by decide, rfl⟩

/-- The ends of the three reserved ranges, and the words beside them. -/
theorem test_witness_ReservedAndInternalWordsAreRefused :
    [0x07#8, 0x3F#8, 0x44#8, 0x7F#8, 0x85#8, 0xFF#8].all (fun w => decodeWord w Operands.zero = none) = true ∧
    [0x06#8, 0x40#8, 0x43#8, 0x80#8, 0x84#8].all (fun w => decodeWord w Operands.zero ≠ none) = true ∧
    (presenting .software 0x07#8 idle).inputs = [.operation .software 0x07#8 Operands.zero] ∧ idle.cfg.legal = true ∧
    decode (originOutside .software) 0x07#8 Operands.zero = .error .reservedOp ∧
    originOutside .timer = true ∧ 0x80 ≤ (0x80#8).toNat ∧ (0x84#8).toNat ≤ 0x84 :=
  ⟨by decide, by decide, rfl, by decide, rfl, rfl, by decide, by decide⟩

theorem test_witness_StepRunsPresentedOperation :
    (presenting .timer 0x42#8 idle).inputs = [.operation .timer 0x42#8 Operands.zero] ∧
    (presenting .timer 0x42#8 idle).cfg.legal = true ∧
    decode (originOutside .timer) 0x42#8 Operands.zero = .ok .stick ∧ contextOk .timer .stick = true ∧
    decode (originOutside .software) 0x00#8 Operands.zero = .ok (.acq 0) ∧ contextOk .software (.acq 0) = true ∧
    isRequest (.acq 0) = true ∧ isRequest .stick = false :=
  ⟨rfl, by decide, rfl, rfl, rfl, rfl, rfl, rfl⟩

theorem test_witness_WrongContextIsRefused :
    (presenting .insideHandler 0x00#8 idle).inputs =
      [.operation .insideHandler (encode (.acq 0)).1 (encode (.acq 0)).2] ∧
    (presenting .insideTask 0x82#8 idle).inputs = [.operation .insideTask (encode .term).1 (encode .term).2] ∧
    (presenting .insideHandler 0x84#8 idle).inputs =
      [.operation .insideHandler (encode (.cleanup 0)).1 (encode (.cleanup 0)).2] ∧
    (presenting .software 0x40#8 idle).inputs = [.operation .software (encode .brise).1 (encode .brise).2] ∧
    (presenting .insideTask 0x81#8 idle).inputs =
      [.operation .insideTask (encode (.setout true)).1 (encode (.setout true)).2] ∧
    idle.cfg.legal = true ∧ opClassOf (.acq 0) = .task ∧ opClassOf .brise = .event :=
  ⟨rfl, rfl, rfl, rfl, rfl, by decide, rfl, rfl⟩

/-- Equal budgets (PRG5), and a queue of depth 0. -/
theorem test_witness_IllegalConfigurationIsRefused :
    (presenting .software 0x02#8 { idle with cfg := { Config.atReset with askTicksOne := 2 } }).inputs =
      [.operation .software 0x02#8 Operands.zero] ∧
    refusal? (step (presenting .software 0x02#8 { idle with cfg := { Config.atReset with askTicksOne := 2 } })) =
      some .badConfig ∧
    refusal? (step (presenting .software 0x02#8 { idle with cfg := { Config.atReset with cqDepth := 0 } })) =
      some .badConfig :=
  ⟨rfl, by decide, by decide⟩

def boot1 : Boot := { cfg := Config.atReset, hookBegin := .filled, hookEnd := .empty, signals := [(7, 3)] }

theorem test_witness_BootSetsConfigurationBeforeRequests :
    (next? (step { idle with inputs := [.boot boot1] })).map (fun s => (s.ant.hookEnd, s.signals, s.bootClosed)) =
      some (.empty, [(7, 3)], true) ∧
    boot1.cfg.legal = true ∧ idle.bootClosed = false ∧ idle.ant.busy = false ∧ idle.gen = .invalid ∧
    idle.tmr.baseOn = false ∧ idle.tmr.fixedOn = false ∧ idle.cq = [] ∧ idle.log = [] ∧
    refusal? (step { admitted 1 with inputs := [.boot boot1] }) = some .badConfig ∧
    refusal? (step { idle with inputs := [.boot boot1], bootClosed := true }) = some .badConfig ∧
    refusal? (step { idle with inputs := [.boot boot1], log := [.hookEnd] }) = some .badConfig ∧
    refusal? (step { idle with inputs := [.boot { boot1 with cfg := { Config.atReset with cqDepth := 0 } }] }) =
      some .badConfig ∧
    (next? (step { admitted 1 with inputs := [.descriptor 2 none] })).isSome = true := by decide

/-- The invariant's clause of BootSetsConfigurationBeforeRequests. -/
theorem test_witness_boot_under_the_invariant :
    Inv { idle with inputs := [.boot boot1] } ∧ { idle with inputs := [.boot boot1] }.bootClosed = false :=
  ⟨⟨by decide, by decide, by decide, ⟨by decide, by decide, by decide⟩, by decide⟩, rfl⟩

/-- 93_implementation_defined.md U6: with both slots empty, a REQ with hw_ok 0, which leaves no other trace, and an ACQ
close the configuration; the boot after them is refused. -/
theorem test_boot_after_a_request :
    [.operation .software 0x05#8 { Operands.zero with tx := 1 }, .operation .software 0x00#8 Operands.zero].map
      (fun x => (next? (step { State.init Config.atReset [] store with inputs := [x, .boot boot1] })).map
        (fun s => (s.log, s.bootClosed, refusal? (step s)))) =
      [some ([], true, some .badConfig), some ([], true, some .badConfig)] := by decide

/-- 92_eei_decisions.md D16: a second boot is refused; 70_reset_and_hazards.md R254: a query before the boot is not a
request. -/
theorem test_boot_once :
    (next? (step { idle with inputs := [.boot boot1, .boot boot1] })).map (fun s => refusal? (step s)) =
      some (some .badConfig) ∧
    (next? (step { idle with inputs := [.operation .software 0x02#8 Operands.zero, .boot boot1] })).map
      (fun s => (next? (step s)).map (·.signals)) = some (some [(7, 3)]) := by decide

theorem test_witness_BorrowedDescriptorCannotChange :
    refusal? (step { sending p0 false false with inputs := [.descriptor 3 none] }) = some .descriptorMutated ∧
    (sending p0 false false).gen.tx = some 3 ∧ readDescriptor (sending p0 false false) 3 ≠ none ∧
    (admitted 1).ant.active ≠ some 3 ∧ (admitted 1).gen.tx ≠ some 3 ∧
    (next? (step { admitted 1 with inputs := [.descriptor 3 none] })).map (fun s => readDescriptor s 3) = some none := by
  decide

theorem test_witness_AcquireAdmitsOnlyAFreeAntenna : idle.ant.busy = false ∧ (admitted 1).ant.busy = true := by decide

theorem test_witness_ReleaseFreesAnIdleAntenna :
    idle.ant.busy = false ∧
    ((admitted 1).ant.busy = true ∧ (admitted 1).gen = .invalid ∧ (admitted 1).tmr.baseOn = false ∧
      (admitted 1).tmr.fixedOn = false) ∧
    ((sending p0 false false).ant.busy = true ∧ (sending p0 false false).gen ≠ .invalid) := by decide

theorem test_witness_NoSecondTransmissionIsAdmitted :
    (admitted 1).ant.busy = true ∧ (∃ t, exec (.begin 1 true) (admitted 1) = .next t) ∧ idle.ant.busy = false :=
  ⟨rfl, ⟨_, rfl⟩, rfl⟩

theorem test_witness_RequestAcceptedLoadsTheGenerator :
    idle.ant.busy = false ∧ idle.gen = .invalid ∧ idle.tmr.baseOn = false ∧ idle.tmr.fixedOn = false ∧
    lookupSignal idle.signals 1 = some 1 ∧
    readDescriptor idle 1 = some ⟨"P", .pulse qP⟩ ∧ qP.wellFormed = true ∧
    fits idle.cfg (idle.cfg.syncCycles + idle.cfg.waitCycles) = true ∧
    readDescriptor idle 4 = some ⟨"G", .fixed qG⟩ ∧ qG.wellFormed = true := by decide

theorem test_witness_RequestBusyFaultAndBadDescriptor :
    (admitted 1).ant.busy = true ∧
    (idle.ant.busy = false ∧ idle.gen = .invalid ∧ idle.tmr.baseOn = false ∧ idle.tmr.fixedOn = false) ∧
    (readDescriptor idle 1).map (·.wellFormed) = some true ∧ (readDescriptor idle 5).map (·.wellFormed) = some false ∧
    readDescriptor idle 6 = none := by decide

theorem test_witness_RequestIsAcquireBeginRelease :
    (∃ a, exec (.acq 2) (admitted 1) = .next a ∧ a.reply = .rejectedBusy) ∧
    (∃ a b, exec (.acq 1) idle = .next a ∧ a.reply = .admitted ∧ exec (.begin 1 true) a = .next b ∧ b.reply = .ok) ∧
    (∃ a b, exec (.acq 1) idle = .next a ∧ a.reply = .admitted ∧ exec (.begin 1 false) a = .next b ∧
      b.reply = .errHardwareFault) ∧
    (∃ a, exec (.acq 5) idle = .next a ∧ a.reply = .admitted ∧ exec (.begin 5 true) a = .refused .badDescriptor) :=
  ⟨⟨_, rfl, rfl⟩, ⟨_, _, rfl, rfl, rfl, rfl⟩, ⟨_, _, rfl, rfl, rfl, rfl⟩, ⟨_, rfl, rfl, rfl⟩⟩

theorem test_witness_RequestByIndexLooksUpFirst :
    lookupSignal idle.signals 7 = none ∧ lookupSignal idle.signals 1 = some 1 := by decide

theorem test_witness_BeginLoadsTheGenerator :
    (admitted 3).ant.busy = true ∧ (admitted 3).ant.active = some 3 ∧ (admitted 3).gen = .invalid ∧
    (admitted 3).tmr.baseOn = false ∧ (admitted 3).tmr.fixedOn = false ∧
    readDescriptor (admitted 3) 3 = some ⟨"S", .pulse qS⟩ ∧ qS.wellFormed = true ∧ fits idle.cfg 5 = true ∧
    (admitted 4).ant.active = some 4 ∧ readDescriptor (admitted 4) 4 = some ⟨"G", .fixed qG⟩ ∧ qG.wellFormed = true := by
  decide

/-- V14, V15, V16, V17. -/
theorem test_witness_BeginRefusalsAndHardwareFault :
    idle.ant.busy = false ∧ (admitted 1).ant.active ≠ some 2 ∧
    ((sending p0 false false).ant.busy = true ∧ (sending p0 false false).ant.active = some 3 ∧
      (sending p0 false false).gen ≠ .invalid) ∧
    ((admitted 5).ant.active = some 5 ∧ (readDescriptor (admitted 5) 5).map (·.wellFormed) = some false) ∧
    ((admitted 1).ant.active = some 1 ∧ (readDescriptor (admitted 1) 1).map (·.wellFormed) = some true) := by decide

/-- S1, cycle 3: the last SYNC cycle. -/
theorem test_witness_RiseInSyncStageHoldsHigh :
    (sending { p0 with c := 3 } false false).gen = .pulse 3 { p0 with c := 3 } ∧
    (sending { p0 with c := 3 } false false).tmr.baseOn = true ∧
    (sending { p0 with c := 3 } false false).tmr.baseLevel = false ∧ 3 < idle.cfg.syncCycles ∧
    p0.oscRunning = false ∧ fits idle.cfg 4 = true := by decide

/-- S1, cycle 4: the one WAIT cycle. -/
theorem test_witness_RiseInWaitStageHoldsLow :
    (sending { p0 with c := 4 } false false).gen = .pulse 3 { p0 with c := 4 } ∧
    (sending { p0 with c := 4 } false false).tmr.baseOn = true ∧
    (sending { p0 with c := 4 } false false).tmr.baseLevel = false ∧ idle.cfg.syncCycles ≤ 4 ∧
    4 < p0.nextRepStart := by decide

/-- S1, cycles 5 and 8: the first and the last bit. -/
theorem test_witness_RiseInCodeStageStartsABurst :
    (sending { p0 with c := 5 } false false).gen = .pulse 3 { p0 with c := 5 } ∧
    (sending { p0 with c := 5 } false false).tmr.baseOn = true ∧
    (sending { p0 with c := 5 } false false).tmr.baseLevel = false ∧ idle.cfg.syncCycles ≤ 5 ∧ p0.nextRepStart ≤ 5 ∧
    readDescriptor (sending p0 false false) 3 = some ⟨"S", .pulse qS⟩ ∧
    (0 < qS.L ∧ qS.code[0]? = some 1) ∧ (3 < qS.L ∧ qS.code[3]? = some 1) ∧ (1 : Nat) ≤ 1 ∧
    fits idle.cfg 4 = true ∧ fits idle.cfg idle.cfg.askTicksOne = true ∧ idle.cfg.askTicksZero < idle.cfg.askTicksOne ∧
    (next? (exec .brise (sending { p0 with c := 8, bitIdx := 3 } false false))).map (fun s => s.gen) =
      some (.pulse 3 { p0 with c := 8, bitIdx := 4, oscBudget := 6, oscRunning := true }) := by decide

/-- S1, cycle 9. -/
theorem test_witness_RepeatCheckStartsTheNextRepetition :
    (sending { p0 with c := 9, bitIdx := 4 } false false).gen = .pulse 3 { p0 with c := 9, bitIdx := 4 } ∧
    (sending { p0 with c := 9, bitIdx := 4 } false false).tmr.baseOn = true ∧
    (sending { p0 with c := 9, bitIdx := 4 } false false).tmr.baseLevel = false ∧
    idle.cfg.syncCycles ≤ 9 ∧ p0.nextRepStart ≤ 9 ∧
    readDescriptor (sending p0 false false) 3 = some ⟨"S", .pulse qS⟩ ∧ qS.L ≤ 4 ∧ 0 + 1 < qS.R ∧
    fits idle.cfg 1 = true ∧ fits idle.cfg 10 = true := by decide

/-- S1, cycle 14, and a trailing cycle (V27). -/
theorem test_witness_RepeatCheckTerminatesOnce :
    (sending p14 false false).gen = .pulse 3 p14 ∧ (sending p14 false false).tmr.baseOn = true ∧
    (sending p14 false false).tmr.baseLevel = false ∧ idle.cfg.syncCycles ≤ p14.c ∧ p14.nextRepStart ≤ p14.c ∧
    readDescriptor (sending p14 false false) 3 = some ⟨"S", .pulse qS⟩ ∧ qS.L ≤ p14.bitIdx ∧
    qS.R ≤ p14.repsSent + 1 ∧ fits idle.cfg 2 = true ∧
    (p14.terminated = false ∧ (sending p14 false false).cq.length < idle.cfg.cqDepth) ∧
    (pEnd.terminated = true ∧ (sending pEnd false false).gen = .pulse 3 pEnd ∧ qS.R ≤ pEnd.repsSent + 1) := by decide

theorem test_witness_FallStopsTheOscillatorAndCounts :
    (sending pBurst true true).gen = .pulse 3 pBurst ∧ (sending pBurst true true).tmr.baseOn = true ∧
    (sending pBurst true true).tmr.baseLevel = true ∧ fits idle.cfg (pBurst.c + 1) = true := by decide

/-- V21: budgets 0 and 1, and the oscillator stopped. -/
theorem test_witness_SubCarrierTickFlipsOrStops :
    (sending pBurst true true).gen = .pulse 3 pBurst ∧ (sending pBurst true true).tmr.baseOn = true ∧
    p0.oscRunning = false ∧ (sending p0 true false).gen = .pulse 3 p0 ∧ pBurst.oscRunning = true ∧
    ({ pBurst with oscBudget := 0 } : PulseRegs).oscBudget = 0 ∧
    ({ pBurst with oscBudget := 1 } : PulseRegs).oscBudget = 0 + 1 := by decide

/-- V19. -/
theorem test_witness_DisabledEventsAreRefused :
    idle.gen.tag ≠ .pulse ∧ idle.gen.tag ≠ .fixed ∧
    (sending p0 true false).tmr.baseLevel = true ∧ (sending p0 false false).tmr.baseLevel = false ∧
    (sending p0 false false).gen.tag ≠ .fixed ∧ (sending p0 false false).tmr.fixedOn = false := by decide

/-- V29. -/
theorem test_witness_TickAndFallInEitherOrder :
    (sending { pBurst with oscBudget := 1, oscLevel := false } true false).gen =
      .pulse 3 { pBurst with oscBudget := 1, oscLevel := false } ∧
    (sending { pBurst with oscBudget := 1, oscLevel := false } true false).tmr.baseOn = true ∧
    (sending { pBurst with oscBudget := 1, oscLevel := false } true false).tmr.baseLevel = true ∧
    fits idle.cfg 6 = true := by decide

/-- A rise in the last SYNC cycle, a flip; the two kinds of high state. -/
theorem test_witness_LineIsHighOnlyInSyncOrBurst :
    (∃ t, exec .brise (sending { p0 with c := 3 } false false) = .next t ∧ t.out = true) ∧
    (∃ t, exec .stick (sending { pBurst with oscLevel := false } true false) = .next t ∧ t.out = true) ∧
    (Inv (sending { p0 with c := 3 } true true) ∧ (sending { p0 with c := 3 } true true).out = true) ∧
    (Inv (sending pBurst true true) ∧ (sending pBurst true true).out = true) :=
  ⟨⟨_, rfl, rfl⟩, ⟨_, rfl, rfl⟩, ⟨test_inv_sync_high, rfl⟩, ⟨test_inv_burst, rfl⟩⟩

theorem test_witness_PulseRegistersOnlyMoveForward :
    Inv (sending p14 false false) ∧ ∃ t p, exec .brise (sending p14 false false) = .next t ∧
      (sending p14 false false).gen = .pulse 3 p14 ∧ t.gen = .pulse 3 p ∧ p.terminated = true :=
  ⟨test_inv_last_check, _, _, rfl, rfl, rfl, rfl⟩

theorem test_witness_TrailingPulseEventsAreHarmless :
    Inv (sending pEnd true false) ∧ (sending pEnd true false).gen = .pulse 3 pEnd ∧ pEnd.terminated = true ∧
      (∃ t, exec .bfall (sending pEnd true false) = .next t) ∧ ∃ t, exec .stick (sending pEnd true false) = .next t :=
  ⟨test_inv_trailing, rfl, rfl, ⟨_, rfl⟩, ⟨_, rfl⟩⟩

/-- S1, cycle 14; and cycle 0, which does not terminate. -/
theorem test_witness_PulseTerminatesAtItsLastCycle :
    (Inv (sending p14 false false) ∧ p14.terminated = false ∧
      ∃ t p, exec .brise (sending p14 false false) = .next t ∧ t.gen = .pulse 3 p ∧ p.terminated = true) ∧
    (Inv (sending p0 false false) ∧ p0.terminated = false ∧
      ∃ t p, exec .brise (sending p0 false false) = .next t ∧ t.gen = .pulse 3 p ∧ p.terminated = false) :=
  ⟨⟨test_inv_last_check, rfl, _, _, rfl, rfl, rfl⟩, test_inv_start, rfl, _, _, rfl, rfl, rfl⟩

/-- 30_encoding.md R90: the bits of 0xA0, the last index and the first beyond. -/
theorem test_witness_DataBitsComeMostSignificantFirst :
    qF.wellFormed = true ∧
    (List.range 9).map (dataBit qF) = [some true, some false, some true, some false, some false, some false, some false,
      some false, none] := by decide

/-- S3, ticks 0 and 7. -/
theorem test_witness_TickEmitsTheNextBit :
    (ticking f0 false).gen = .fixed 4 f0 ∧ (ticking f0 false).tmr.fixedOn = true ∧ f0.nextRepStart ≤ f0.t ∧
    readDescriptor (ticking f0 false) 4 = some ⟨"G", .fixed qG⟩ ∧ qG.codeLen = qG.data.length ∧
    0 < 8 * qG.codeLen ∧ 7 < 8 * qG.codeLen ∧ fits idle.cfg 1 = true ∧
    (next? (exec .ftick (ticking { f0 with t := 7, bitIdx := 7 } true))).map (fun s => (s.out, s.gen)) =
      some (false, .fixed 4 { f0 with t := 8, bitIdx := 8 }) := by decide

/-- S3, ticks 9 and 10. -/
theorem test_witness_TickHoldsTheLineLow :
    (ticking { f0 with t := 10, repIdx := 1, nextRepStart := 11 } false).gen =
      .fixed 4 { f0 with t := 10, repIdx := 1, nextRepStart := 11 } ∧
    (ticking f0 false).tmr.fixedOn = true ∧ 10 < 11 ∧ fits idle.cfg 11 = true ∧
    (next? (exec .ftick (ticking { f0 with t := 9, repIdx := 1, nextRepStart := 11 } false))).map (·.out) =
      some false := by decide

/-- S3, ticks 8 and 19, and a trailing tick (V37). -/
theorem test_witness_TickChecksTheRepetition :
    ((ticking { f0 with t := 8, bitIdx := 8 } false).gen = .fixed 4 { f0 with t := 8, bitIdx := 8 } ∧ 0 ≤ 8 ∧
      0 + 1 < qG.repetitions ∧ fits idle.cfg (8 + qG.ticksBetween) = true) ∧
    ((ticking f19 false).gen = .fixed 4 f19 ∧ (ticking f19 false).tmr.fixedOn = true ∧ f19.nextRepStart ≤ f19.t ∧
      readDescriptor (ticking f19 false) 4 = some ⟨"G", .fixed qG⟩ ∧ f19.bitIdx = 8 * qG.codeLen ∧
      fits idle.cfg 2 = true ∧ fits idle.cfg 20 = true ∧ qG.repetitions ≤ f19.repIdx + 1 ∧
      f19.terminated = false ∧ (ticking f19 false).cq.length < idle.cfg.cqDepth) ∧
    ((ticking fEnd false).gen = .fixed 4 fEnd ∧ qG.repetitions ≤ fEnd.repIdx + 1 ∧ fEnd.terminated = true) := by decide

theorem test_witness_FixedRegistersOnlyMoveForward :
    Inv (ticking f19 false) ∧ ∃ t f, exec .ftick (ticking f19 false) = .next t ∧
      (ticking f19 false).gen = .fixed 4 f19 ∧ t.gen = .fixed 4 f ∧ f.terminated = true :=
  ⟨test_inv_fixed_last, _, _, rfl, rfl, rfl, rfl⟩

theorem test_witness_TrailingFixedTicksAreHarmless :
    Inv (ticking fEnd false) ∧ (ticking fEnd false).gen = .fixed 4 fEnd ∧ fEnd.terminated = true ∧
      opClassOf .ftick = .event ∧ ∃ t, exec .ftick (ticking fEnd false) = .next t :=
  ⟨test_inv_fixed_trailing, rfl, rfl, rfl, _, rfl⟩

/-- S3, tick 19; and tick 0, which does not terminate. -/
theorem test_witness_FixedTerminatesAtItsLastTick :
    (Inv (ticking f19 false) ∧ f19.terminated = false ∧
      ∃ t f, exec .ftick (ticking f19 false) = .next t ∧ t.gen = .fixed 4 f ∧ f.terminated = true) ∧
    (Inv (ticking f0 false) ∧ f0.terminated = false ∧
      ∃ t f, exec .ftick (ticking f0 false) = .next t ∧ t.gen = .fixed 4 f ∧ f.terminated = false) :=
  ⟨⟨test_inv_fixed_last, rfl, _, _, rfl, rfl, rfl⟩, test_inv_fixed_start, rfl, _, _, rfl, rfl, rfl⟩

theorem test_witness_TerminateSetsTheFlagOnce :
    ((sending p14 true false).gen = .pulse 3 p14 ∧ p14.terminated = false ∧
      (sending p14 true false).cq.length < idle.cfg.cqDepth) ∧
    ((sending pEnd true false).gen = .pulse 3 pEnd ∧ pEnd.terminated = true) ∧
    ((ticking f19 false).gen = .fixed 4 f19 ∧ f19.terminated = false ∧
      (ticking f19 false).cq.length < idle.cfg.cqDepth) ∧
    ((ticking fEnd false).gen = .fixed 4 fEnd ∧ fEnd.terminated = true) := by decide

theorem test_witness_TerminateWithoutAGeneratorFaults :
    idle.gen = .invalid ∧ fault? (exec .term idle) = some .registerHoldsNoValue := by decide

theorem test_witness_ScheduleAppendsAToken :
    idle.cq.length < idle.cfg.cqDepth ∧ idle.cfg.cqDepth ≤ (sending pEnd true false).cq.length := by decide

theorem test_witness_DispatchRunsTheOldestCleanup :
    idle.cq = [] ∧ (sending pEnd true false).cq = [⟨.cleanup, 3⟩] := by decide

theorem test_witness_AntennaStaysBusyUntilDispatch :
    (Inv (sending pEnd true false) ∧ (sending pEnd true false).cq ≠ []) ∧
    (opClassOf .bfall ≠ .primitive ∧ Instr.bfall ≠ .dispatch ∧ ∃ t, exec .bfall (sending pEnd true false) = .next t) :=
  ⟨⟨test_inv_trailing, by decide⟩, by decide, by decide, _, rfl⟩

theorem test_witness_OneTokenAndOneGeneratorAtMost :
    (Inv (sending pEnd true false) ∧ (sending pEnd true false).gen ≠ .invalid) ∧ Inv (ticking f0 false) ∧ Inv idle :=
  ⟨⟨test_inv_trailing, by decide⟩, test_inv_fixed_start, test_inv_idle⟩

theorem test_witness_DispatchRestoresTheIdleState :
    Inv (sending pEnd true false) ∧ (sending pEnd true false).cq ≠ [] ∧ (sending pEnd true false).gen.tx = some 3 :=
  ⟨test_inv_trailing, by decide, rfl⟩

theorem test_witness_InvariantHoldsAtReset : Config.atReset.legal = true ∧ Memory.wf store = true := by decide

theorem test_witness_InvariantIsKeptByEveryStep :
    Inv (presenting .timer 0x40#8 (sending p14 false false)) ∧
    OutsideOnly (presenting .timer 0x40#8 (sending p14 false false)) ∧
    ∃ t, step (presenting .timer 0x40#8 (sending p14 false false)) = .next t ∧ t.gen = .pulse 3 pEnd := by
  refine ⟨⟨by decide, by decide, by decide, ⟨rfl, rfl, rfl, rfl, rfl, "S", qS, rfl, ?_⟩, by decide⟩, ?_, _, rfl, rfl⟩
  · constructor <;> decide
  · exact fun x hx => by cases List.mem_singleton.mp hx; rfl

theorem test_witness_UnreachableStopsNeverHappen :
    Inv (sending pEnd true false) ∧ OutsideOnly (sending pEnd true false) ∧ opClassOf .bfall ≠ .primitive :=
  ⟨test_inv_trailing, fun _ hx => absurd hx (List.not_mem_nil), by decide⟩

/-- A state with counters of 4 bits (PRG5). -/
def narrow (s : State) : State := { s with cfg := { s.cfg with ctrW := some 4 } }

/-- PRG5: with `CTR_W = 4`, the fall that would make `P.c = 16`, the one before it, and a step within the width. -/
theorem test_witness_CountersStayWithinTheirWidth :
    (CountersFit (presenting .timer 0x41#8 (sending pBurst true true)) ∧
      ∃ t, step (presenting .timer 0x41#8 (sending pBurst true true)) = .next t) ∧
    refusal? (exec .bfall (narrow (sending { pBurst with c := 15 } true true))) = some .counterOverflow ∧
    (next? (exec .bfall (narrow (sending { pBurst with c := 14 } true true)))).isSome = true :=
  ⟨⟨⟨by decide, by decide, by decide, by decide, by decide⟩, _, rfl⟩, by decide, by decide⟩

/-- A descriptor storage whose payloads are long enough for 4-bit counters to run out: 16 bits, a long gap. -/
def longStore : List (TxRef × Descriptor) :=
  [(3, ⟨"S", .pulse { code := List.replicate 16 1, L := 16, R := 2 }⟩),
    (4, ⟨"G", .fixed { qG with data := [0xA0#8, 0x00#8], codeLen := 2 }⟩)]

/-- The like of the fall for the other counters of the pulse-code generator: 15 + 1 in `P.bit_idx`, a tick budget of 16,
15 + 1 in `P.reps_sent`, and a next start of 4 + 1 + (16 + 1) * 1; and values that fit, the start 4 + 1 + (4 + 1) * 1
among them. -/
theorem test_witness_pulse_counters :
    [narrow { sending { p0 with c := 15, bitIdx := 15 } false false with store := longStore },
      narrow { sending { p0 with c := 5 } false false with cfg := { Config.atReset with askTicksOne := 16 } },
      narrow (sending { pEnd with repsSent := 15 } false false),
      narrow { sending { p0 with c := 15, bitIdx := 16 } false false with store := longStore }].map
        (fun s => refusal? (exec .brise s)) =
      [some .counterOverflow, some .counterOverflow, some .counterOverflow, some .counterOverflow] ∧
    [narrow { sending { p0 with c := 14, bitIdx := 14 } false false with store := longStore },
      narrow { sending { p0 with c := 5 } false false with cfg := { Config.atReset with askTicksOne := 15 } },
      narrow (sending { pEnd with repsSent := 14 } false false),
      narrow (sending { p0 with c := 9, bitIdx := 4 } false false)].map (fun s => (next? (exec .brise s)).isSome) =
      [true, true, true, true] := by decide

/-- `F.t` in the hold, emit and both repetition-check branches, `F.bit_idx`, `F.rep_idx`, and
`F.t + ticks_between_repetitions`: 13 + 3. -/
theorem test_witness_fixed_counters :
    [narrow (ticking { f0 with t := 15, nextRepStart := 16 } false),
      narrow (ticking { f0 with t := 15 } false),
      narrow { ticking { f0 with t := 3, bitIdx := 15 } false with store := longStore },
      narrow (ticking { fEnd with t := 3, nextRepStart := 0, repIdx := 15 } false),
      narrow (ticking { f0 with t := 13, bitIdx := 8 } false),
      narrow (ticking { f0 with t := 15, bitIdx := 8, repIdx := 1 } false),
      narrow (ticking { fEnd with t := 15 } false)].map (fun s => refusal? (exec .ftick s)) =
      List.replicate 7 (some .counterOverflow) ∧
    [narrow (ticking { f0 with t := 14 } false), narrow (ticking { f0 with t := 12, bitIdx := 8 } false),
      narrow (ticking { fEnd with t := 14, repIdx := 14 } false)].map (fun s => (next? (exec .ftick s)).isSome) =
      [true, true, true] := by decide

/-- `SYNC_CYCLES + WAIT_CYCLES`: 15 + 1, and 14 + 1. -/
theorem test_witness_first_repetition_start :
    [15, 14].map (fun n =>
      let c : Params := { Config.atReset with syncCycles := n, ctrW := some 4 }
      [exec (.begin 1 true) { admitted 1 with cfg := c }, exec (.req 1 true) { idle with cfg := c },
        exec (.reqi 1 true) { idle with cfg := c }].map refusal?) =
      [[some .counterOverflow, some .counterOverflow, some .counterOverflow], [none, none, none]] := by decide

/-- Next states for NoOperationWritesDescriptorStorage, NoOperationWritesParameters, InterruptEventsLeaveAntennaAndLog,
OnlyHandlersWriteTheLine, TagChangesOnlyByBeginAndCleanup and LogIsOnlyAppendedTo. -/
theorem test_witness_next_states :
    (∃ t, exec .ftick (ticking f0 false) = .next t ∧ opClassOf .ftick = .event) ∧
    (∃ t, exec (.begin 3 true) (admitted 3) = .next t ∧ t.gen.tag ≠ (admitted 3).gen.tag) ∧
    (∃ t, exec .dispatch (sending pEnd true false) = .next t ∧ t.gen.tag ≠ (sending pEnd true false).gen.tag) ∧
    (∃ t, exec .term (sending p14 true false) = .next t ∧ opClassOf .term ≠ .event ∧ ∀ l, Instr.term ≠ .setout l) :=
  ⟨⟨_, rfl, rfl⟩, ⟨_, rfl, by decide⟩, ⟨_, rfl, by decide⟩, _, rfl, by decide, by decide⟩

theorem test_witness_FixedTransmissionFollowsItsFrame :
    Inv (ticking f0 false) ∧ (ticking f0 false).cfg.ctrW = none ∧ (ticking f0 false).gen = .fixed 4 f0 ∧
      readDescriptor (ticking f0 false) 4 = some ⟨"G", .fixed qG⟩ :=
  ⟨test_inv_fixed_start, rfl, rfl, rfl⟩

/-- S3: the levels of ticks 0 to 19, and the tick that terminates. -/
theorem test_fixed_frame_of_S3 :
    (List.range 20).map (fixedLevel qG) = [true, false, true, false, false, false, false, false, false, false, false,
      true, false, true, false, false, false, false, false, false] ∧ fixedEnd qG = 19 := by decide

theorem test_witness_PulseTransmissionFollowsItsFrame :
    Inv (sending p0 false false) ∧ (sending p0 false false).cfg.ctrW = none ∧
      (sending p0 false false).gen = .pulse 3 p0 ∧
      p0.nextRepStart = (sending p0 false false).cfg.syncCycles + (sending p0 false false).cfg.waitCycles ∧
      (sending p0 false false).tmr.baseLevel = false ∧
      readDescriptor (sending p0 false false) 3 = some ⟨"S", .pulse qS⟩ :=
  ⟨test_inv_start, rfl, rfl, rfl, rfl, rfl⟩

/-- S1: the symbols of cycles 0 to 14, and the cycle that terminates. -/
theorem test_pulse_frame_of_S1 :
    (List.range 15).map (pulseSymbol Config.atReset qS) = [.sync, .sync, .sync, .sync, .low, .bit 1, .bit 0, .bit 1,
      .bit 1, .low, .bit 1, .bit 0, .bit 1, .bit 1, .low] ∧ pulseEnd Config.atReset qS = 14 := by decide

/-- V20: the ten levels of a 1 bit's cycle, but for the last. -/
theorem test_pulse_burst_of_V20 :
    (List.range 9).map (symbolLevel Config.atReset (.bit 1)) =
      [false, true, false, true, false, true, false, false, false] := by decide

end Sys2Proof.Tests
end

section
/-! What a step does with a presented operation word (00_scope.md R14, R15), by what `issue` answers, and the statements
of 00_scope.md. -/

namespace Sys2Proof.Machine

/-- The three conditions on a configuration (00_scope.md R9, R11, R12). -/
theorem legal_iff {c : Params} :
    c.legal = true ↔ c.askTicksZero < c.askTicksOne ∧ 1 ≤ c.cqDepth ∧ c.ctrW ≠ some 0 := by
  simp [Params.legal, and_assoc]

theorem issue_of_not_legal {o : Origin} {w : OpWord} {a : Operands} {s : State} (h : ¬ s.cfg.legal = true) :
    issue o w a s = .error .badConfig :=
  if_neg h

section
variable {s : State} {o : Origin} {w : OpWord} {a : Operands} {rest : List Input}

theorem step_of_issue_ok {i : Instr} (hin : s.inputs = .operation o w a :: rest) (hi : issue o w a s = .ok i) :
    step s = exec i (noteRequest i { s with inputs := rest }) := by
  simp [step, hin, hi]

theorem step_of_issue_error {r : Refusal} (hin : s.inputs = .operation o w a :: rest)
    (hi : issue o w a s = .error r) : step s = .refused r := by
  simp [step, hin, hi]

end

/-- Settles O4: the word is issued, and `noteRequest` is exactly the mark that closes boot. -/
theorem stepRunsPresentedOperation : Obligations.StepRunsPresentedOperation := by
  intro s o w a rest i hin hlegal hdec hctx
  exact step_of_issue_ok hin (issue_eq_ok.mpr ⟨hlegal, hdec, hctx⟩)

/-- Settles O6: either condition makes the configuration illegal, which `issue` tests before the decoder. -/
theorem illegalConfigurationIsRefused : Obligations.IllegalConfigurationIsRefused := by
  intro s o w a rest hin hbad
  have hillegal : ¬ s.cfg.legal = true := by
    intro hlegal
    obtain ⟨hticks, hdepth, -⟩ := legal_iff.mp hlegal
    omega
  exact step_of_issue_error hin (issue_of_not_legal hillegal)

end Sys2Proof.Machine
end

section
/-! What an operation can write, said once for each class of 30_encoding.md R93: which registers may differ after it.
The frame statements of 10_state.md (R24, R25, R27, R28, R46, R48) are read off these. -/

namespace Sys2Proof.Machine

section
variable {i : Instr} {s t : State} {tx : TxRef}

/-- An operation writes at most the six groups of 10_state.md R20 and the reply; of the antenna never a hook slot, and
of the log only its end. -/
def Writes (s t : State) : Prop :=
  ∃ busy active out gen tmr cq events reply,
    t = { s with ant := { s.ant with busy := busy, active := active }, out := out, gen := gen, tmr := tmr, cq := cq,
                 log := s.log ++ events, reply := reply }

/-- An interrupt event writes the line, the running generator's registers, the base clock's level and the queue
(44_dispatcher.md R201). -/
def EventWrites (s t : State) : Prop :=
  ∃ out gen level cq,
    t = { s with out := out, gen := gen, tmr := { s.tmr with baseLevel := level }, cq := cq, reply := .nothing } ∧
    gen.tag = s.gen.tag

/-- The operations that load the generator slot (20_memory.md R74). -/
def LoadsGenerator (i : Instr) : Prop :=
  (∃ tx hw, i = .begin tx hw) ∨ (∃ tx hw, i = .req tx hw) ∨ (∃ n hw, i = .reqi n hw)

/-- A command or a clean-up does not write the line, and writes the generator slot as a whole or not at all. -/
def TaskWrites (i : Instr) (s t : State) : Prop :=
  ∃ busy active gen tmr cq events reply,
    t = { s with ant := { s.ant with busy := busy, active := active }, gen := gen, tmr := tmr, cq := cq,
                 log := s.log ++ events, reply := reply } ∧
    (gen = s.gen ∨ (s.gen = .invalid ∧ LoadsGenerator i) ∨
      (gen = .invalid ∧ (i = .dispatch ∨ ∃ tx, i = .cleanup tx)))

theorem EventWrites.writes (h : EventWrites s t) : Writes s t := by
  obtain ⟨out, gen, level, cq, rfl, -⟩ := h
  exact ⟨s.ant.busy, s.ant.active, out, gen, { s.tmr with baseLevel := level }, cq, [], .nothing,
    by rw [List.append_nil]⟩

theorem TaskWrites.writes (h : TaskWrites i s t) : Writes s t := by
  obtain ⟨busy, active, gen, tmr, cq, events, reply, rfl, -⟩ := h
  exact ⟨busy, active, s.out, gen, tmr, cq, events, reply, rfl⟩

/-! ### The shared operations -/

theorem terminate_writes (h : terminate s = .next t) : ∃ g q, t = (s.setGen g).setCq q ∧ g.tag = s.gen.tag := by
  obtain ⟨tx, p, -, -, rfl⟩ | ⟨tx, f, -, -, rfl⟩ | ⟨tx, p, hg, -, -, rfl⟩ | ⟨tx, f, hg, -, -, rfl⟩ :=
    terminate_eq_next.mp h
  · exact ⟨t.gen, t.cq, rfl, rfl⟩
  · exact ⟨t.gen, t.cq, rfl, rfl⟩
  · exact ⟨_, _, rfl, by rw [hg]; rfl⟩
  · exact ⟨_, _, rfl, by rw [hg]; rfl⟩

theorem loadGenerator_writes {v : Variant} (h : loadGenerator tx v s = .next t) :
    ∃ g tm, t = (s.setGen g).setTmr tm := by
  cases v with
  | pulse =>
    obtain ⟨-, rfl⟩ := loadPulse_eq_next.mp h
    exact ⟨_, _, rfl⟩
  | fixed => exact ⟨_, _, (Host.Outcome.next.inj h).symm⟩

theorem cleanedUp_writes (tx : TxRef) (s : State) :
    ∃ busy active events, cleanedUp tx s =
      { s with ant := { s.ant with busy := busy, active := active }, gen := .invalid, tmr := ⟨false, false, false⟩,
               log := s.log ++ events, reply := .nothing } := by
  unfold cleanedUp
  split
  · exact ⟨false, none, hookEvents s.ant.hookEnd .hookEnd ++ [.notify (.completed tx)], by
      rw [← List.append_assoc]; rfl⟩
  · exact ⟨s.ant.busy, s.ant.active, [.notify (.completed tx)], rfl⟩

theorem riseStage_writes {p : PulseRegs} (hg : s.gen = .pulse tx p) (h : riseStage tx p s = .next t) :
    ∃ l g q, t = ((s.setOut l).setGen g).setCq q ∧ g.tag = s.gen.tag := by
  obtain ⟨-, rfl⟩ | ⟨-, -, rfl⟩ | ⟨-, -, name, q, -, ⟨-, hcode⟩ | ⟨-, hcheck⟩⟩ := riseStage_eq_next.mp h
  · exact ⟨true, s.gen, s.cq, rfl, rfl⟩
  · exact ⟨false, s.gen, s.cq, rfl, rfl⟩
  · obtain ⟨b, -, -, -, ht⟩ := stageCode_eq_next.mp hcode
    exact ⟨s.out, t.gen, s.cq, by rw [ht]; rfl, by rw [ht, hg]; rfl⟩
  · obtain ⟨-, ⟨-, hterm⟩ | ⟨-, -, ht⟩⟩ := stageRepeatCheck_eq_next.mp hcheck
    · obtain ⟨g, cq, rfl, htag⟩ := terminate_writes hterm
      exact ⟨false, g, cq, rfl, htag.trans (congrArg Gen.tag hg).symm⟩
    · exact ⟨s.out, t.gen, s.cq, by rw [ht]; rfl, by rw [ht, hg]; rfl⟩

theorem tickBranch_writes {f : FixedRegs} (hg : s.gen = .fixed tx f) (h : tickBranch tx f s = .next t) :
    ∃ l g q, t = ((s.setOut l).setGen g).setCq q ∧ g.tag = s.gen.tag := by
  obtain ⟨-, rfl⟩ | ⟨-, name, q, -, ⟨-, hcheck⟩ | ⟨-, hemit⟩⟩ := tickBranch_eq_next.mp h
  · exact ⟨false, s.gen, s.cq, rfl, rfl⟩
  · obtain ⟨-, ⟨-, hterm⟩ | ⟨-, -, ht⟩⟩ := branchRepCheck_eq_next.mp hcheck
    · obtain ⟨g, cq, rfl, htag⟩ := terminate_writes hterm
      exact ⟨false, g, cq, rfl, htag.trans (congrArg Gen.tag hg).symm⟩
    · exact ⟨false, t.gen, s.cq, by rw [ht]; rfl, by rw [ht, hg]; rfl⟩
  · obtain ⟨l, -, -, ht⟩ := branchEmit_eq_next.mp hemit
    exact ⟨l, t.gen, s.cq, by rw [ht]; rfl, by rw [ht, hg]; rfl⟩

theorem oscTick_writes {p : PulseRegs} (hg : s.gen = .pulse tx p) :
    ∃ l g, oscTick tx p s = (s.setOut l).setGen g ∧ g.tag = s.gen.tag := by
  unfold oscTick
  split
  · exact ⟨_, _, rfl, by rw [hg]; rfl⟩
  · exact ⟨_, _, rfl, by rw [hg]; rfl⟩

/-! ### The operations, by class -/

theorem execBrise_writes (h : execBrise s = .next t) : EventWrites s t := by
  obtain ⟨-, -, tx, p, u, hg, hu, rfl⟩ := execBrise_eq_next.mp h
  obtain ⟨l, g, q, rfl, htag⟩ := riseStage_writes hg hu
  exact ⟨l, g, true, q, rfl, htag⟩

theorem execBfall_writes (h : execBfall s = .next t) : EventWrites s t := by
  obtain ⟨-, -, tx, p, hg, -, rfl⟩ := execBfall_eq_next.mp h
  exact ⟨_, _, _, s.cq, rfl, by rw [hg]; rfl⟩

theorem execStick_writes (h : execStick s = .next t) : EventWrites s t := by
  obtain ⟨-, tx, p, hg, rfl⟩ := execStick_eq_next.mp h
  split
  · obtain ⟨l, g, hu, htag⟩ := oscTick_writes hg
    exact ⟨l, g, s.tmr.baseLevel, s.cq, by rw [hu]; rfl, htag⟩
  · exact ⟨s.out, s.gen, s.tmr.baseLevel, s.cq, rfl, rfl⟩

theorem execFtick_writes (h : execFtick s = .next t) : EventWrites s t := by
  obtain ⟨-, tx, f, u, hg, hu, tx', g, hug, -, rfl⟩ := execFtick_eq_next.mp h
  obtain ⟨l, g', q, rfl, htag⟩ := tickBranch_writes hg hu
  exact ⟨l, _, s.tmr.baseLevel, q, rfl, (congrArg Gen.tag hug).symm.trans htag⟩

/-- What every interrupt event can write. -/
theorem event_writes (hclass : opClassOf i = .event) (h : exec i s = .next t) : EventWrites s t := by
  cases i with
  | brise => exact execBrise_writes h
  | bfall => exact execBfall_writes h
  | stick => exact execStick_writes h
  | ftick => exact execFtick_writes h
  | _ => cases hclass

theorem TaskWrites.of_gen_unchanged {busy : Bool} {active : Option TxRef} {events : List Event} {reply : Reply}
    (h : t = { s with ant := { s.ant with busy := busy, active := active }, log := s.log ++ events, reply := reply }) :
    TaskWrites i s t :=
  ⟨busy, active, s.gen, s.tmr, s.cq, events, reply, h, .inl rfl⟩

theorem TaskWrites.of_setReply {reply : Reply} (h : t = s.setReply reply) : TaskWrites i s t :=
  .of_gen_unchanged (events := []) (by rw [List.append_nil]; exact h)

theorem execAcq_writes (h : execAcq tx s = .next t) : TaskWrites i s t := by
  unfold execAcq at h
  split at h
  · exact .of_setReply (next_eq_next.mp h)
  · exact .of_gen_unchanged (next_eq_next.mp h)

theorem execRel_writes (h : execRel s = .next t) : TaskWrites i s t := by
  obtain ⟨-, rfl⟩ | ⟨-, -, rfl⟩ := execRel_eq_next.mp h
  · exact .of_setReply rfl
  · exact .of_gen_unchanged rfl

theorem execBegin_writes {hw : Bool} (h : execBegin tx hw s = .next t) (hi : LoadsGenerator i) :
    TaskWrites i s t := by
  obtain ⟨-, hidle, d, -, -, ⟨-, rfl⟩ | ⟨-, u, hload, rfl⟩⟩ := execBegin_eq_next.mp h
  · exact .of_setReply rfl
  · obtain ⟨g, tm, rfl⟩ := loadGenerator_writes hload
    exact ⟨s.ant.busy, s.ant.active, g, tm, s.cq, [], .ok, by rw [List.append_nil]; rfl,
      .inr (.inl ⟨(generatorIdle_iff.mp hidle).1, hi⟩)⟩

theorem request_writes {hw : Bool} (h : request tx hw s = .next t) (hi : LoadsGenerator i) : TaskWrites i s t := by
  obtain ⟨-, rfl⟩ | ⟨-, hidle, d, -, -, ⟨-, rfl⟩ | ⟨-, u, hload, rfl⟩⟩ := request_eq_next.mp h
  · exact .of_gen_unchanged rfl
  · exact .of_gen_unchanged (busy := false) (active := none)
      (events := hookEvents s.ant.hookBegin (.hookBegin tx) ++ hookEvents s.ant.hookEnd .hookEnd)
      (by rw [← List.append_assoc]; rfl)
  · obtain ⟨g, tm, rfl⟩ := loadGenerator_writes hload
    exact ⟨true, some tx, g, tm, s.cq, hookEvents s.ant.hookBegin (.hookBegin tx) ++ [.notify (.processing tx)],
      .accepted, by rw [← List.append_assoc]; rfl, .inr (.inl ⟨(generatorIdle_iff.mp hidle).1, hi⟩)⟩

theorem execReqi_writes {n : Nat} {hw : Bool} (h : execReqi n hw s = .next t) (hi : LoadsGenerator i) :
    TaskWrites i s t := by
  unfold execReqi at h
  split at h
  · exact .of_gen_unchanged (next_eq_next.mp h)
  · exact request_writes h hi

theorem execDispatch_writes (h : execDispatch s = .next t) : TaskWrites .dispatch s t := by
  obtain ⟨-, rfl⟩ | ⟨k, rest, -, rfl⟩ := execDispatch_eq_next.mp h
  · exact .of_setReply rfl
  · obtain ⟨busy, active, events, hu⟩ := cleanedUp_writes k.tx (s.setCq rest)
    exact ⟨busy, active, .invalid, _, rest, events, .nothing, hu, .inr (.inr ⟨rfl, .inl rfl⟩)⟩

theorem execCleanup_writes (h : execCleanup tx s = .next t) : TaskWrites (.cleanup tx) s t := by
  rw [execCleanup_eq, next_eq_next] at h
  subst h
  obtain ⟨busy, active, events, hu⟩ := cleanedUp_writes tx s
  exact ⟨busy, active, .invalid, _, s.cq, events, .nothing, hu, .inr (.inr ⟨rfl, .inr ⟨tx, rfl⟩⟩)⟩

/-- What every task-context command can write. -/
theorem task_writes (hclass : opClassOf i = .task) (h : exec i s = .next t) : TaskWrites i s t := by
  cases i with
  | acq tx => exact execAcq_writes h
  | rel => exact execRel_writes h
  | bsy => exact .of_setReply (next_eq_next.mp h)
  | begin tx hw => exact execBegin_writes h (.inl ⟨tx, hw, rfl⟩)
  | dispatch => exact execDispatch_writes h
  | req tx hw => exact request_writes h (.inr (.inl ⟨tx, hw, rfl⟩))
  | reqi n hw => exact execReqi_writes h (.inr (.inr ⟨n, hw, rfl⟩))
  | _ => cases hclass

/-- What the four internal primitives can write: `SETOUT` the line alone, `TERM` and `SCHED` the running generator's
registers and the queue, and `CLEANUP` what a command may. -/
theorem primitive_writes (hclass : opClassOf i = .primitive) (h : exec i s = .next t) :
    (∃ l, i = .setout l ∧ t = (s.setOut l).setReply .nothing) ∨
    (∃ g q, t = ((s.setGen g).setCq q).setReply .nothing ∧ g.tag = s.gen.tag) ∨
    (∃ tx, i = .cleanup tx ∧ TaskWrites i s t) := by
  cases i with
  | setout l => exact .inl ⟨l, rfl, finish_eq_next.mp h⟩
  | term =>
    obtain ⟨u, hu, rfl⟩ := execTerm_eq_next.mp h
    obtain ⟨g, q, rfl, htag⟩ := terminate_writes hu
    exact .inr (.inl ⟨g, q, rfl, htag⟩)
  | sched fn tx =>
    obtain ⟨-, rfl⟩ := execSched_eq_next.mp h
    exact .inr (.inl ⟨s.gen, _, rfl, rfl⟩)
  | cleanup tx => exact .inr (.inr ⟨tx, rfl, execCleanup_writes h⟩)
  | _ => cases hclass

/-- What every operation can write. -/
theorem exec_writes (h : exec i s = .next t) : Writes s t := by
  cases hclass : opClassOf i with
  | task => exact (task_writes hclass h).writes
  | event => exact (event_writes hclass h).writes
  | primitive =>
    obtain ⟨l, -, rfl⟩ | ⟨g, q, rfl, -⟩ | ⟨tx, -, hw⟩ := primitive_writes hclass h
    · exact ⟨s.ant.busy, s.ant.active, l, s.gen, s.tmr, s.cq, [], .nothing, by rw [List.append_nil]; rfl⟩
    · exact ⟨s.ant.busy, s.ant.active, s.out, g, s.tmr, q, [], .nothing, by rw [List.append_nil]; rfl⟩
    · exact hw.writes

end

/-- Settles O54: none of these is among what an operation can write. -/
theorem noOperationWritesParameters : Obligations.NoOperationWritesParameters := by
  intro i s t h
  obtain ⟨busy, active, out, gen, tmr, cq, events, reply, rfl⟩ := exec_writes h
  exact ⟨rfl, rfl, rfl, rfl, rfl, rfl⟩

/-- Settles O58: of the log an operation writes only its end. -/
theorem logIsOnlyAppendedTo : Obligations.LogIsOnlyAppendedTo := by
  intro i s t h
  obtain ⟨busy, active, out, gen, tmr, cq, events, reply, rfl⟩ := exec_writes h
  exact ⟨events, rfl⟩

/-- Settles O56: a command or a clean-up does not write the line, nor do `TERM` and `SCHED`. -/
theorem onlyHandlersWriteTheLine : Obligations.OnlyHandlersWriteTheLine := by
  intro i s t hevent hsetout h
  cases hclass : opClassOf i with
  | task =>
    obtain ⟨busy, active, gen, tmr, cq, events, reply, rfl, -⟩ := task_writes hclass h
    rfl
  | event => exact absurd hclass hevent
  | primitive =>
    obtain ⟨l, hi, -⟩ | ⟨g, q, rfl, -⟩ | ⟨tx, -, busy, active, gen, tmr, cq, events, reply, rfl, -⟩ :=
      primitive_writes hclass h
    · exact absurd hi (hsetout l)
    · rfl
    · rfl

/-- A command or a clean-up that changes the tag loads an idle slot or empties it. -/
theorem TaskWrites.tag_changed {i : Instr} {s t : State} (h : TaskWrites i s t) (htag : t.gen.tag ≠ s.gen.tag) :
    (s.gen = .invalid ∧ LoadsGenerator i) ∨ (t.gen = .invalid ∧ (i = .dispatch ∨ ∃ tx, i = .cleanup tx)) := by
  obtain ⟨busy, active, gen, tmr, cq, events, reply, rfl, hsame | hloaded⟩ := h
  · exact absurd (congrArg Gen.tag hsame) htag
  · exact hloaded

/-- Settles O57: events, `SETOUT`, `TERM` and `SCHED` keep the tag; a command leaves the slot as it is, loads an idle
one or empties it. -/
theorem tagChangesOnlyByBeginAndCleanup : Obligations.TagChangesOnlyByBeginAndCleanup := by
  refine ⟨fun i s t h htag => ?_, fun i s t hclass h => ?_⟩
  · cases hclass : opClassOf i with
    | task => exact (task_writes hclass h).tag_changed htag
    | event =>
      obtain ⟨out, gen, level, cq, rfl, hsame⟩ := event_writes hclass h
      exact absurd hsame htag
    | primitive =>
      obtain ⟨l, -, rfl⟩ | ⟨g, q, rfl, hsame⟩ | ⟨tx, -, hw⟩ := primitive_writes hclass h
      · exact absurd rfl htag
      · exact absurd hsame htag
      · exact hw.tag_changed htag
  · obtain ⟨busy, active, gen, tmr, cq, events, reply, rfl, hsame | ⟨hidle, -⟩ | ⟨hempty, -⟩⟩ :=
      task_writes hclass h
    · exact .inl hsame
    · exact .inr (.inl hidle)
    · exact .inr (.inr hempty)

/-- Settles O41: `TERM` runs `terminate`, whose first case is the empty slot. -/
theorem terminateWithoutAGeneratorFaults : Obligations.TerminateWithoutAGeneratorFaults := by
  intro s hg
  have hterm : terminate s = .fault .registerHoldsNoValue := by rw [terminate, hg]
  change execTerm s = _
  rw [execTerm, hterm, andThen_fault]

end Sys2Proof.Machine
end

section
/-! The pulse-code generator in its frame (30_encoding.md R80; 42_pulse_code.md R150 to R165): where the clause
`PulseOk` of the invariant puts a rising edge, and that each handler moves the generator one place on. -/

namespace Sys2Proof.Safety

open Sys2Proof.Machine

theorem pulse_wellFormed_iff {q : PulsePayload} :
    q.wellFormed = true ↔ 1 ≤ q.L ∧ q.L = q.code.length ∧ 1 ≤ q.R ∧ ∀ b ∈ q.code, b ≤ 1 := by
  simp [PulsePayload.wellFormed, and_assoc]

/-! ### Starts of repetitions -/

theorem repStart_zero (c : Params) (L : Nat) : repStart c L 0 = codeStart c := rfl

theorem codeStart_le_repStart (c : Params) (L k : Nat) : codeStart c ≤ repStart c L k :=
  Nat.le_add_right _ _

theorem repStart_le (c : Params) (q : PulsePayload) (k : Nat) :
    repStart c q.L k ≤ codeStart c + pulsePeriod c q * k :=
  Nat.add_le_add_left (Nat.mul_le_mul_right k (Nat.add_le_add_left (le_max_left _ _) _)) _

theorem length_lt_pulsePeriod (c : Params) (q : PulsePayload) : q.L < pulsePeriod c q := by
  unfold pulsePeriod
  omega

/-- A repetition that is due begins in its place, also with `GAP_CYCLES` 0, where the formula of R154 gives a cycle the
check itself has used (42_pulse_code.md R164). -/
theorem start_le_of_repStart_le {c : Params} {q : PulsePayload} {k n : Nat} (hdue : repStart c q.L k ≤ n)
    (hgap : 0 < k → codeStart c + pulsePeriod c q * (k - 1) + q.L < n) : codeStart c + pulsePeriod c q * k ≤ n := by
  rcases Nat.eq_zero_or_pos k with rfl | hk
  · exact hdue
  obtain ⟨j, rfl⟩ := Nat.exists_eq_succ_of_ne_zero hk.ne'
  have hlast := hgap hk
  rcases Nat.eq_zero_or_pos c.gapCycles with hzero | hpos
  · have hperiod : pulsePeriod c q = q.L + 1 := by simp [pulsePeriod, hzero]
    rw [hperiod] at hlast ⊢
    rw [Nat.succ_sub_one] at hlast
    rw [Nat.mul_succ]
    omega
  · have hperiod : pulsePeriod c q = q.L + c.gapCycles := by simp [pulsePeriod, Nat.max_eq_left hpos]
    rw [hperiod]
    exact hdue

theorem tickBudget_le {c : Params} (hlegal : c.legal = true) (b : Nat) : tickBudget c b ≤ c.askTicksOne := by
  obtain ⟨hticks, -, -⟩ := legal_iff.mp hlegal
  unfold tickBudget
  split
  · exact le_rfl
  · exact hticks.le

theorem edges_low {s : State} {p : PulseRegs} (hlow : s.tmr.baseLevel = false) : edges s p = p.c := by
  simp [edges, hlow]

theorem edges_high {s : State} {p : PulseRegs} (hhigh : s.tmr.baseLevel = true) : edges s p = p.c + 1 := by
  simp [edges, hhigh]

namespace PulseOk

variable {s t : State} {q : PulsePayload} {p : PulseRegs}

/-- Of the state, `PulseOk` speaks of the configuration, the line and the base clock's level only. -/
theorem congr (h : PulseOk s q p) (hcfg : t.cfg = s.cfg) (hout : t.out = s.out)
    (hlevel : t.tmr.baseLevel = s.tmr.baseLevel) : PulseOk t q p := by
  have hedges : edges t p = edges s p := by rw [edges, edges, hlevel]
  exact {
    wellFormed := h.wellFormed
    bitIdx_le := h.bitIdx_le
    budget_le := by rw [hcfg]; exact h.budget_le
    low_phase := by rw [hlevel, hout]; exact h.low_phase
    high_phase := by rw [hlevel, hout, hcfg]; exact h.high_phase
    level_running := h.level_running
    burst := by rw [hcfg]; exact h.burst
    running_reps := by rw [hcfg]; exact h.running_reps
    running_bits := by rw [hcfg, hedges]; exact h.running_bits
    running_gap := by rw [hcfg, hedges]; exact h.running_gap
    ended := by rw [hcfg, hedges]; exact h.ended }

/-! ### Positions -/

theorem codeStart_le_nextRepStart (h : PulseOk s q p) : codeStart s.cfg ≤ p.nextRepStart := by
  cases hterm : p.terminated with
  | false => rw [(h.running_reps hterm).2]; exact codeStart_le_repStart _ _ _
  | true => rw [(h.ended hterm).2.2.1]; exact codeStart_le_repStart _ _ _

/-- A terminated generator is past the cycle of its first `TERM` (42_pulse_code.md R165). -/
theorem pulseEnd_lt_edges (h : PulseOk s q p) (hterm : p.terminated = true) : pulseEnd s.cfg q < edges s p := by
  obtain ⟨hreps, -, -, hedges⟩ := h.ended hterm
  omega

theorem nextRepStart_le_pulseEnd (h : PulseOk s q p) (hterm : p.terminated = true) :
    p.nextRepStart ≤ pulseEnd s.cfg q := by
  rw [(h.ended hterm).2.2.1]
  exact (repStart_le _ q _).trans (Nat.le_add_right _ _)

/-- An edge before the start of the next repetition falls in preamble, wait or gap of a running generator. -/
theorem waiting (h : PulseOk s q p) (hc : edges s p < p.nextRepStart) : p.terminated = false ∧ p.bitIdx = 0 := by
  cases hterm : p.terminated with
  | true =>
    have hlate := h.pulseEnd_lt_edges hterm
    have hstart := h.nextRepStart_le_pulseEnd hterm
    omega
  | false =>
    refine ⟨rfl, ?_⟩
    by_contra hbit
    have hpos := h.running_bits hterm (Nat.pos_of_ne_zero hbit)
    have hstart := repStart_le s.cfg q p.repsSent
    rw [← (h.running_reps hterm).2] at hstart
    omega

/-- From the start of a repetition on, the edge number says which bit is next (30_encoding.md R80). -/
theorem edges_of_started (h : PulseOk s q p) (hterm : p.terminated = false) (hc : p.nextRepStart ≤ edges s p) :
    edges s p = codeStart s.cfg + pulsePeriod s.cfg q * p.repsSent + p.bitIdx := by
  rcases Nat.eq_zero_or_pos p.bitIdx with hbit | hbit
  · obtain ⟨hle, hgap⟩ := h.running_gap hterm hbit
    rw [(h.running_reps hterm).2] at hc
    have hge := start_le_of_repStart_le hc hgap
    omega
  · exact h.running_bits hterm hbit

/-- After termination the line is low (42_pulse_code.md R163). -/
theorem quiet_of_terminated (h : PulseOk s q p) (hterm : p.terminated = true) : s.out = false := by
  have hstopped : p.oscRunning = false := by
    by_contra hrun
    have := (h.burst (by simpa using hrun)).1
    simp [hterm] at this
  cases hlevel : s.tmr.baseLevel with
  | false => exact (h.low_phase hlevel).1
  | true =>
    have hlate := h.pulseEnd_lt_edges hterm
    have hL := (pulse_wellFormed_iff.mp h.wellFormed).1
    have hpast : ¬ p.c < s.cfg.syncCycles := by
      simp only [edges, hlevel, Bool.toNat_true, pulseEnd, codeStart] at hlate
      omega
    rw [h.high_phase hlevel, h.level_running hstopped]
    simp [hpast]

/-! ### One handler after another -/

/-- `BEGIN` puts the generator before its first cycle (41_generator_interface.md R131). -/
theorem loaded (hwf : q.wellFormed = true) (hout : s.out = false) (hlow : s.tmr.baseLevel = false) :
    PulseOk s q ⟨0, 0, false, 0, false, s.cfg.syncCycles + s.cfg.waitCycles, 0, false⟩ where
  wellFormed := hwf
  bitIdx_le := Nat.zero_le _
  budget_le := Nat.zero_le _
  low_phase _ := ⟨hout, rfl⟩
  high_phase := by simp [hlow]
  level_running _ := rfl
  burst := nofun
  running_reps _ := ⟨(pulse_wellFormed_iff.mp hwf).2.2.1, (repStart_zero _ _).symm⟩
  running_bits := nofun
  running_gap _ _ := ⟨by simp [edges, hlow], nofun⟩
  ended := nofun

/-- A rising edge in stage SYNC or WAIT (42_pulse_code.md R151, R152). -/
theorem rise_before_start (h : PulseOk s q p) (hlow : s.tmr.baseLevel = false) (hc : p.c < p.nextRepStart) :
    PulseOk (setBaseLevel true (s.setOut (decide (p.c < s.cfg.syncCycles)))) q p := by
  rw [← edges_low hlow] at hc
  obtain ⟨hrun, hbit⟩ := h.waiting hc
  have hstopped := (h.low_phase hlow).2
  have hedges : edges s p = p.c := edges_low hlow
  exact {
    wellFormed := h.wellFormed
    bitIdx_le := h.bitIdx_le
    budget_le := h.budget_le
    low_phase := nofun
    high_phase _ := by rw [h.level_running hstopped, Bool.or_false]; rfl
    level_running := h.level_running
    burst := by simp [hstopped]
    running_reps := h.running_reps
    running_bits := by simp [hbit]
    running_gap _ _ := by
      obtain ⟨hle, hgap⟩ := h.running_gap hrun hbit
      have hstart := repStart_le s.cfg q p.repsSent
      rw [← (h.running_reps hrun).2] at hstart
      refine ⟨?_, fun hk => ?_⟩
      · change p.c + 1 ≤ codeStart s.cfg + pulsePeriod s.cfg q * p.repsSent
        omega
      · have := hgap hk
        change codeStart s.cfg + pulsePeriod s.cfg q * (p.repsSent - 1) + q.L < p.c + 1
        omega
    ended := by simp [hrun] }

/-- A rising edge in stage CODE (42_pulse_code.md R153). -/
theorem rise_code (h : PulseOk s q p) (hlegal : s.cfg.legal = true) (hlow : s.tmr.baseLevel = false)
    (hc : p.nextRepStart ≤ p.c) (hbit : p.bitIdx < q.L) {b : Nat} (hb : codeBit q p.bitIdx = some b) :
    PulseOk (setBaseLevel true s) q
      { p with bitIdx := p.bitIdx + 1, oscBudget := tickBudget s.cfg b, oscLevel := false, oscRunning := true } := by
  have hrun : p.terminated = false := by
    by_contra hterm
    have := (h.ended (by simpa using hterm)).2.1
    omega
  have hstart := h.codeStart_le_nextRepStart
  have hpast : ¬ p.c < s.cfg.syncCycles := by
    unfold codeStart at hstart
    omega
  have hedges := h.edges_of_started hrun (by rw [edges_low hlow]; exact hc)
  rw [edges_low hlow] at hedges
  exact {
    wellFormed := h.wellFormed
    bitIdx_le := hbit
    budget_le := tickBudget_le hlegal b
    low_phase := nofun
    high_phase _ := by simp [(h.low_phase hlow).1, hpast]
    level_running := nofun
    burst _ := ⟨hrun, hstart.trans hc, Nat.succ_pos _, b, hb, le_rfl, by simp⟩
    running_reps := h.running_reps
    running_bits _ _ := congrArg (· + 1) hedges
    running_gap := nofun
    ended := by simp [hrun] }

/-- A rising edge in stage REPEAT-CHECK with a repetition to follow (42_pulse_code.md R154). -/
theorem rise_next_repetition (h : PulseOk s q p) (hlow : s.tmr.baseLevel = false) (hc : p.nextRepStart ≤ p.c)
    (hbit : q.L ≤ p.bitIdx) (hreps : p.repsSent + 1 < q.R) :
    PulseOk (setBaseLevel true s) q
      { p with repsSent := p.repsSent + 1, bitIdx := 0, nextRepStart := repStart s.cfg q.L (p.repsSent + 1) } := by
  have hrun : p.terminated = false := by
    by_contra hterm
    have := (h.ended (by simpa using hterm)).1
    omega
  have hstart := h.codeStart_le_nextRepStart
  have hpast : ¬ p.c < s.cfg.syncCycles := by
    unfold codeStart at hstart
    omega
  obtain ⟨hout, hstopped⟩ := h.low_phase hlow
  have hedges := h.edges_of_started hrun (by rw [edges_low hlow]; exact hc)
  rw [edges_low hlow, le_antisymm h.bitIdx_le hbit] at hedges
  have hperiod := length_lt_pulsePeriod s.cfg q
  exact {
    wellFormed := h.wellFormed
    bitIdx_le := Nat.zero_le _
    budget_le := h.budget_le
    low_phase := nofun
    high_phase _ := by simp [hout, hpast, h.level_running hstopped]
    level_running := h.level_running
    burst := by simp [hstopped]
    running_reps _ := ⟨hreps, rfl⟩
    running_bits := nofun
    running_gap _ _ := by
      change p.c + 1 ≤ codeStart s.cfg + pulsePeriod s.cfg q * (p.repsSent + 1) ∧
        (_ → codeStart s.cfg + pulsePeriod s.cfg q * p.repsSent + q.L < p.c + 1)
      rw [Nat.mul_succ]
      omega
    ended := by simp [hrun] }

/-- A rising edge in stage REPEAT-CHECK with the count reached, the first or a trailing one (42_pulse_code.md R154,
R163). -/
theorem rise_terminated (h : PulseOk s q p) (hlow : s.tmr.baseLevel = false) (hc : p.nextRepStart ≤ p.c)
    (hbit : q.L ≤ p.bitIdx) (hreps : q.R ≤ p.repsSent + 1) :
    PulseOk (setBaseLevel true (s.setOut false)) q { p with repsSent := p.repsSent + 1, terminated := true } := by
  have hstart := h.codeStart_le_nextRepStart
  have hpast : ¬ p.c < s.cfg.syncCycles := by
    unfold codeStart at hstart
    omega
  have hstopped := (h.low_phase hlow).2
  have hlength := le_antisymm h.bitIdx_le hbit
  have hend : p.nextRepStart = repStart s.cfg q.L (q.R - 1) ∧ p.c + q.R = pulseEnd s.cfg q + 1 + p.repsSent := by
    rw [← edges_low (p := p) hlow] at hc ⊢
    cases hterm : p.terminated with
    | true =>
      obtain ⟨-, -, hnext, hedges⟩ := h.ended hterm
      exact ⟨hnext, hedges⟩
    | false =>
      obtain ⟨hlt, hnext⟩ := h.running_reps hterm
      have hedges := h.edges_of_started hterm hc
      have hR : q.R - 1 = p.repsSent := by omega
      rw [pulseEnd, hR]
      exact ⟨hnext, by omega⟩
  obtain ⟨hnext, hedges⟩ := hend
  exact {
    wellFormed := h.wellFormed
    bitIdx_le := h.bitIdx_le
    budget_le := h.budget_le
    low_phase := nofun
    high_phase _ := by simp [hpast, h.level_running hstopped]
    level_running := h.level_running
    burst := by simp [hstopped]
    running_reps := nofun
    running_bits := nofun
    running_gap := nofun
    ended _ := ⟨hreps, hlength, hnext, by
      change p.c + 1 + q.R = pulseEnd s.cfg q + 1 + (p.repsSent + 1)
      omega⟩ }

/-- A falling edge (42_pulse_code.md R155). -/
theorem fall (h : PulseOk s q p) (hhigh : s.tmr.baseLevel = true) :
    PulseOk (setBaseLevel false (s.setOut false)) q
      { p with oscRunning := false, oscLevel := false, c := p.c + 1 } := by
  have hedges : edges (setBaseLevel false (s.setOut false))
      { p with oscRunning := false, oscLevel := false, c := p.c + 1 } = edges s p := (edges_high hhigh).symm
  exact {
    wellFormed := h.wellFormed
    bitIdx_le := h.bitIdx_le
    budget_le := h.budget_le
    low_phase _ := ⟨rfl, rfl⟩
    high_phase := nofun
    level_running _ := rfl
    burst := nofun
    running_reps := h.running_reps
    running_bits := by rw [hedges]; exact h.running_bits
    running_gap := by rw [hedges]; exact h.running_gap
    ended := by rw [hedges]; exact h.ended }

/-- A running oscillator belongs to a high phase past the preamble (42_pulse_code.md R157, R160). -/
theorem high_of_running (h : PulseOk s q p) (hrun : p.oscRunning = true) :
    s.tmr.baseLevel = true ∧ ¬ p.c < s.cfg.syncCycles := by
  constructor
  · by_contra hlow
    have := (h.low_phase (by simpa using hlow)).2
    simp [hrun] at this
  · obtain ⟨-, hstart, -⟩ := h.burst hrun
    unfold codeStart at hstart
    omega

/-- A sub-carrier tick that finds the budget used up (42_pulse_code.md R156). -/
theorem tick_exhausted (h : PulseOk s q p) (hrun : p.oscRunning = true) :
    PulseOk (s.setOut false) q { p with oscLevel := false, oscRunning := false } := by
  obtain ⟨hhigh, hpast⟩ := h.high_of_running hrun
  exact {
    wellFormed := h.wellFormed
    bitIdx_le := h.bitIdx_le
    budget_le := h.budget_le
    low_phase _ := ⟨rfl, rfl⟩
    high_phase _ := by simp [hpast]
    level_running _ := rfl
    burst := nofun
    running_reps := h.running_reps
    running_bits := h.running_bits
    running_gap := h.running_gap
    ended := h.ended }

/-- A sub-carrier tick that flips the line and re-arms (42_pulse_code.md R156). -/
theorem tick_flips (h : PulseOk s q p) (hrun : p.oscRunning = true) (hbudget : p.oscBudget ≠ 0) :
    PulseOk (s.setOut !p.oscLevel) q { p with oscBudget := p.oscBudget - 1, oscLevel := !p.oscLevel } := by
  obtain ⟨hhigh, hpast⟩ := h.high_of_running hrun
  obtain ⟨hterm, hstart, hbit, b, hb, hle, hlevel⟩ := h.burst hrun
  exact {
    wellFormed := h.wellFormed
    bitIdx_le := h.bitIdx_le
    budget_le := (Nat.sub_le _ _).trans h.budget_le
    low_phase := by simp [hhigh]
    high_phase _ := by simp [hpast]
    level_running := by simp [hrun]
    burst _ := by
      refine ⟨hterm, hstart, hbit, b, hb, (Nat.sub_le _ _).trans hle, ?_⟩
      rw [hlevel, ← decide_not, decide_eq_decide]
      change ¬(tickBudget s.cfg b - p.oscBudget) % 2 = 1 ↔ (tickBudget s.cfg b - (p.oscBudget - 1)) % 2 = 1
      omega
    running_reps := h.running_reps
    running_bits := h.running_bits
    running_gap := h.running_gap
    ended := h.ended }

end PulseOk

end Sys2Proof.Safety
end

section
/-! The fixed-code generator in its frame (30_encoding.md R88; 43_fixed_code.md R180 to R187): the levels of the frame
table, where the clause `FixedOk` of the invariant puts a tick, and that each branch moves the generator one place
on. -/

namespace Sys2Proof.Safety

open Sys2Proof.Machine

theorem fixed_wellFormed_iff {q : FixedPayload} :
    q.wellFormed = true ↔ 1 ≤ q.codeLen ∧ q.codeLen = q.data.length ∧ 1 ≤ q.repetitions := by
  simp [FixedPayload.wellFormed, and_assoc]

/-! ### The frame table -/

theorem bitCount_lt_fixedPeriod (q : FixedPayload) : bitCount q < fixedPeriod q := by
  unfold fixedPeriod
  omega

theorem bitCount_add_gap_le (q : FixedPayload) : bitCount q + q.ticksBetween ≤ fixedPeriod q :=
  Nat.add_le_add_left (le_max_left _ _) _

theorem dataBit_of_bitCount_le {q : FixedPayload} {i : Nat} (hi : bitCount q ≤ i) : dataBit q i = none := by
  have hbyte : ¬ i / 8 < q.codeLen := by
    unfold bitCount at hi
    omega
  simp [dataBit, dataByte, hbyte]

/-- Tick `r` of repetition `k` (30_encoding.md R88). -/
theorem fixedLevel_tick (q : FixedPayload) (k : Nat) {r : Nat} (hr : r < fixedPeriod q) :
    fixedLevel q (fixedPeriod q * k + r) = if k < q.repetitions then (dataBit q r).getD false else false := by
  have hdiv : (fixedPeriod q * k + r) / fixedPeriod q = k := by
    rw [Nat.mul_add_div (Nat.zero_lt_of_lt hr), Nat.div_eq_of_lt hr, Nat.add_zero]
  rw [fixedLevel, hdiv, Nat.mul_add_mod, Nat.mod_eq_of_lt hr]

/-- The line is low between two repetitions (30_encoding.md R88). -/
theorem fixedLevel_gap {q : FixedPayload} {k m : Nat} (hstart : fixedPeriod q * k + bitCount q ≤ m)
    (hend : m < fixedPeriod q * (k + 1)) : fixedLevel q m = false := by
  rw [Nat.mul_succ] at hend
  obtain ⟨r, rfl⟩ := Nat.exists_eq_add_of_le (Nat.le_of_add_right_le hstart)
  rw [fixedLevel_tick q k (by omega), dataBit_of_bitCount_le (by omega)]
  split <;> rfl

/-- The line is low after the frame (30_encoding.md R91). -/
theorem fixedLevel_of_fixedEnd_le {q : FixedPayload} {m : Nat} (hend : fixedEnd q ≤ m) (hreps : 1 ≤ q.repetitions) :
    fixedLevel q m = false := by
  by_cases hm : m < fixedPeriod q * (q.repetitions - 1 + 1)
  · exact fixedLevel_gap hend hm
  · have hdiv : ¬ m / fixedPeriod q < q.repetitions := by
      rw [Nat.div_lt_iff_lt_mul (Nat.zero_lt_of_lt (bitCount_lt_fixedPeriod q)), Nat.mul_comm]
      rwa [Nat.sub_add_cancel hreps] at hm
    rw [fixedLevel, if_neg hdiv]

namespace FixedOk

variable {s t : State} {q : FixedPayload} {f : FixedRegs}

/-- Of the state, `FixedOk` speaks of the line only. -/
theorem congr (h : FixedOk s q f) (hout : t.out = s.out) : FixedOk t q f :=
  { h with level := hout.trans h.level }

/-! ### Positions -/

/-- A terminated generator is past the tick of its first `TERM` (43_fixed_code.md R186). -/
theorem fixedEnd_lt_t (h : FixedOk s q f) (hterm : f.terminated = true) : fixedEnd q < f.t := by
  obtain ⟨hreps, -, -, ht⟩ := h.ended hterm
  omega

theorem bits_pos (h : FixedOk s q f) : 0 < bitCount q := by
  have := (fixed_wellFormed_iff.mp h.wellFormed).1
  unfold bitCount
  omega

/-- Before its last repetition is over, a generator's tick that is due falls in repetition `F.rep_idx` at bit
`F.bit_idx` (30_encoding.md R88). -/
theorem t_of_started (h : FixedOk s q f) (hterm : f.terminated = false) (ht : f.nextRepStart ≤ f.t) :
    f.t = fixedPeriod q * f.repIdx + f.bitIdx := by
  rcases Nat.eq_zero_or_pos f.bitIdx with hbit | hbit
  · obtain ⟨hle, hgap⟩ := h.running_gap hterm hbit
    have hnext := (h.running_reps hterm).2
    rw [hbit, Nat.add_zero]
    refine le_antisymm hle ?_
    rcases Nat.eq_zero_or_pos f.repIdx with hrep | hrep
    · simp [hrep]
    · have hlast := hgap hrep
      rw [if_neg hrep.ne'] at hnext
      have hsucc : fixedPeriod q * f.repIdx = fixedPeriod q * (f.repIdx - 1) + fixedPeriod q := by
        rw [← Nat.mul_succ, Nat.succ_eq_add_one, Nat.sub_add_cancel hrep]
      have hperiod : fixedPeriod q = bitCount q + max q.ticksBetween 1 := rfl
      omega
  · exact h.running_bits hterm hbit

/-- A tick before the start of the next repetition falls in the gap of a running generator. -/
theorem holding (h : FixedOk s q f) (ht : f.t < f.nextRepStart) :
    f.terminated = false ∧ f.bitIdx = 0 ∧ 0 < f.repIdx ∧
      fixedPeriod q * (f.repIdx - 1) + bitCount q < f.t ∧ f.t < fixedPeriod q * f.repIdx := by
  have hrun : f.terminated = false := by
    by_contra hterm
    have := (h.ended (by simpa using hterm)).2.2.1
    omega
  have hnext := (h.running_reps hrun).2
  have hrep : 0 < f.repIdx := by
    by_contra hzero
    rw [if_pos (by omega)] at hnext
    omega
  rw [if_neg hrep.ne'] at hnext
  have hsucc : fixedPeriod q * f.repIdx = fixedPeriod q * (f.repIdx - 1) + fixedPeriod q := by
    rw [← Nat.mul_succ, Nat.succ_eq_add_one, Nat.sub_add_cancel hrep]
  have hperiod := bitCount_add_gap_le q
  have hbit : f.bitIdx = 0 := by
    by_contra hbit
    have := h.running_bits hrun (Nat.pos_of_ne_zero hbit)
    omega
  have hlast := (h.running_gap hrun hbit).2 hrep
  exact ⟨hrun, hbit, hrep, hlast, by omega⟩

/-- After termination the line is low (43_fixed_code.md R185). -/
theorem quiet_of_terminated (h : FixedOk s q f) (hterm : f.terminated = true) : s.out = false := by
  have hlate := h.fixedEnd_lt_t hterm
  have hreps := (fixed_wellFormed_iff.mp h.wellFormed).2.2
  rw [h.level, fixedLevel_of_fixedEnd_le (by omega) hreps, ite_self]

/-! ### One tick after another -/

/-- `BEGIN` puts the generator before its first tick (41_generator_interface.md R132). -/
theorem loaded (hwf : q.wellFormed = true) (hout : s.out = false) : FixedOk s q ⟨0, 0, 0, 0, false⟩ where
  wellFormed := hwf
  bitIdx_le := Nat.zero_le _
  level := hout
  running_reps _ := ⟨(fixed_wellFormed_iff.mp hwf).2.2, rfl⟩
  running_bits := nofun
  running_gap _ _ := ⟨Nat.zero_le _, nofun⟩
  ended := nofun

/-- Branch hold, and the count of the tick (43_fixed_code.md R181, R184). -/
theorem tick_hold (h : FixedOk s q f) (ht : f.t < f.nextRepStart) :
    FixedOk (s.setOut false) q { f with t := f.t + 1 } := by
  obtain ⟨hrun, hbit, hrep, hlast, hnext⟩ := h.holding ht
  have hlevel : fixedLevel q f.t = false :=
    fixedLevel_gap hlast.le (by rwa [Nat.sub_add_cancel hrep])
  exact {
    wellFormed := h.wellFormed
    bitIdx_le := h.bitIdx_le
    level := hlevel.symm
    running_reps := h.running_reps
    running_bits := by simp [hbit]
    running_gap _ _ := ⟨hnext, fun _ => hlast.trans (Nat.lt_succ_self _)⟩
    ended := by simp [hrun] }

/-- Branch emit (43_fixed_code.md R183, R184). -/
theorem tick_emit (h : FixedOk s q f) (ht : f.nextRepStart ≤ f.t) (hbit : f.bitIdx ≠ bitCount q) {l : Level}
    (hl : dataBit q f.bitIdx = some l) :
    FixedOk (s.setOut l) q { f with bitIdx := f.bitIdx + 1, t := f.t + 1 } := by
  have hrun : f.terminated = false := by
    by_contra hterm
    exact hbit (h.ended (by simpa using hterm)).2.1
  have hlt : f.bitIdx < bitCount q := lt_of_le_of_ne h.bitIdx_le hbit
  have hpos := h.t_of_started hrun ht
  have hlevel : fixedLevel q f.t = l := by
    rw [hpos, fixedLevel_tick q f.repIdx (hlt.trans (bitCount_lt_fixedPeriod q)),
      if_pos (h.running_reps hrun).1, hl, Option.getD_some]
  exact {
    wellFormed := h.wellFormed
    bitIdx_le := hlt
    level := hlevel.symm
    running_reps := h.running_reps
    running_bits _ _ := congrArg (· + 1) hpos
    running_gap := nofun
    ended := by simp [hrun] }

/-- The repetition check with a repetition to follow (43_fixed_code.md R182, R184). -/
theorem tick_next_repetition (h : FixedOk s q f) (ht : f.nextRepStart ≤ f.t) (hbit : f.bitIdx = bitCount q)
    (hreps : f.repIdx + 1 < q.repetitions) :
    FixedOk (s.setOut false) q
      { f with repIdx := f.repIdx + 1, nextRepStart := f.t + q.ticksBetween, bitIdx := 0, t := f.t + 1 } := by
  have hrun : f.terminated = false := by
    by_contra hterm
    have := (h.ended (by simpa using hterm)).1
    omega
  have hpos := h.t_of_started hrun ht
  rw [hbit] at hpos
  have hnext : f.t < fixedPeriod q * (f.repIdx + 1) := by
    have := bitCount_lt_fixedPeriod q
    rw [Nat.mul_succ]
    omega
  exact {
    wellFormed := h.wellFormed
    bitIdx_le := Nat.zero_le _
    level := (fixedLevel_gap hpos.ge hnext).symm
    running_reps _ := ⟨hreps, congrArg (· + q.ticksBetween) hpos⟩
    running_bits := nofun
    running_gap _ _ := ⟨hnext, fun _ => hpos.ge.trans_lt (Nat.lt_succ_self _)⟩
    ended := by simp [hrun] }

/-- The repetition check with the count reached, the first or a trailing one (43_fixed_code.md R182, R184, R185). -/
theorem tick_terminated (h : FixedOk s q f) (ht : f.nextRepStart ≤ f.t) (hbit : f.bitIdx = bitCount q)
    (hreps : q.repetitions ≤ f.repIdx + 1) :
    FixedOk (s.setOut false) q { f with repIdx := f.repIdx + 1, terminated := true, t := f.t + 1 } := by
  have hend : f.t + q.repetitions = fixedEnd q + 1 + f.repIdx := by
    cases hterm : f.terminated with
    | true => exact (h.ended hterm).2.2.2
    | false =>
      have hpos := h.t_of_started hterm ht
      have hlt := (h.running_reps hterm).1
      have hR : q.repetitions - 1 = f.repIdx := by omega
      rw [fixedEnd, hR]
      omega
  have hlevel : fixedLevel q f.t = false :=
    fixedLevel_of_fixedEnd_le (by omega) (fixed_wellFormed_iff.mp h.wellFormed).2.2
  exact {
    wellFormed := h.wellFormed
    bitIdx_le := h.bitIdx_le
    level := hlevel.symm
    running_reps := nofun
    running_bits := nofun
    running_gap := nofun
    ended _ := ⟨hreps, hbit, Nat.lt_succ_of_le ht, by
      change f.t + 1 + q.repetitions = fixedEnd q + 1 + (f.repIdx + 1)
      omega⟩ }

end FixedOk

end Sys2Proof.Safety
end

section
/-! The invariant of the machine: at construction, under each part of an operation, and under a step. -/

namespace Sys2Proof.Safety

open Sys2Proof.Machine

variable {s t : State} {tx : TxRef}

/-! ### The generator slot, by its tag -/

theorem genOk_invalid_iff (hg : s.gen = .invalid) :
    GenOk s ↔ s.tmr = ⟨false, false, false⟩ ∧ s.cq = [] ∧ s.out = false := by
  simp only [GenOk, hg]

theorem genOk_pulse_iff {p : PulseRegs} (hg : s.gen = .pulse tx p) :
    GenOk s ↔ s.ant.busy = true ∧ s.ant.active = some tx ∧ s.tmr.baseOn = true ∧ s.tmr.fixedOn = false ∧
      s.cq = tokensOf tx p.terminated ∧
      ∃ name q, readDescriptor s tx = some ⟨name, .pulse q⟩ ∧ PulseOk s q p := by
  simp only [GenOk, hg]

theorem genOk_fixed_iff {f : FixedRegs} (hg : s.gen = .fixed tx f) :
    GenOk s ↔ s.ant.busy = true ∧ s.ant.active = some tx ∧ s.tmr.baseOn = false ∧ s.tmr.baseLevel = false ∧
      s.tmr.fixedOn = true ∧ s.cq = tokensOf tx f.terminated ∧
      ∃ name q, readDescriptor s tx = some ⟨name, .fixed q⟩ ∧ FixedOk s q f := by
  simp only [GenOk, hg]

/-- The clause of a running pulse-code generator, from its part in a state with the same line. -/
theorem genOk_of_pulse {u : State} {name : String} {q : PulsePayload} {p : PulseRegs} (hok : PulseOk u q p)
    (hgen : t.gen = .pulse tx p) (hcfg : t.cfg = u.cfg) (hout : t.out = u.out)
    (hlevel : t.tmr.baseLevel = u.tmr.baseLevel) (hbusy : t.ant.busy = true) (hactive : t.ant.active = some tx)
    (hon : t.tmr.baseOn = true) (hoff : t.tmr.fixedOn = false) (hcq : t.cq = tokensOf tx p.terminated)
    (hread : readDescriptor t tx = some ⟨name, .pulse q⟩) : GenOk t :=
  (genOk_pulse_iff hgen).mpr ⟨hbusy, hactive, hon, hoff, hcq, name, q, hread, hok.congr hcfg hout hlevel⟩

/-- The clause of a running fixed-code generator, from its part in a state with the same line. -/
theorem genOk_of_fixed {u : State} {name : String} {q : FixedPayload} {f : FixedRegs} (hok : FixedOk u q f)
    (hgen : t.gen = .fixed tx f) (hout : t.out = u.out) (hbusy : t.ant.busy = true)
    (hactive : t.ant.active = some tx) (hoff : t.tmr.baseOn = false) (hlow : t.tmr.baseLevel = false)
    (hon : t.tmr.fixedOn = true) (hcq : t.cq = tokensOf tx f.terminated)
    (hread : readDescriptor t tx = some ⟨name, .fixed q⟩) : GenOk t :=
  (genOk_fixed_iff hgen).mpr ⟨hbusy, hactive, hoff, hlow, hon, hcq, name, q, hread, hok.congr hout⟩

theorem genOk_of_invalid (hgen : t.gen = .invalid) (htmr : t.tmr = ⟨false, false, false⟩) (hcq : t.cq = [])
    (hout : t.out = false) : GenOk t :=
  (genOk_invalid_iff hgen).mpr ⟨htmr, hcq, hout⟩

/-- `GenOk` does not speak of log, hook slots, signal table, reply, inputs or the mark that closes boot, and of storage
only of the borrowed descriptor. -/
theorem GenOk.congr (h : GenOk s) (hcfg : t.cfg = s.cfg) (hbusy : t.ant.busy = s.ant.busy)
    (hactive : t.ant.active = s.ant.active) (hout : t.out = s.out) (hgen : t.gen = s.gen) (htmr : t.tmr = s.tmr)
    (hcq : t.cq = s.cq) (hread : ∀ tx, s.ant.active = some tx → readDescriptor t tx = readDescriptor s tx) :
    GenOk t := by
  cases hg : s.gen with
  | invalid =>
    obtain ⟨htimers, hq, hlow⟩ := (genOk_invalid_iff hg).mp h
    exact genOk_of_invalid (hgen.trans hg) (htmr.trans htimers) (hcq.trans hq) (hout.trans hlow)
  | pulse tx p =>
    obtain ⟨hb, ha, hon, hoff, hq, name, q, hd, hok⟩ := (genOk_pulse_iff hg).mp h
    rw [genOk_pulse_iff (hgen.trans hg), hbusy, hactive, htmr, hcq, hread tx ha]
    exact ⟨hb, ha, hon, hoff, hq, name, q, hd, hok.congr hcfg hout (congrArg Timers.baseLevel htmr)⟩
  | fixed tx f =>
    obtain ⟨hb, ha, hon, hlow, hoff, hq, name, q, hd, hok⟩ := (genOk_fixed_iff hg).mp h
    rw [genOk_fixed_iff (hgen.trans hg), hbusy, hactive, htmr, hcq, hread tx ha]
    exact ⟨hb, ha, hon, hlow, hoff, hq, name, q, hd, hok.congr hout⟩

/-- No generator runs for a free antenna (10_state.md R26). -/
theorem GenOk.invalid_of_free (h : GenOk s) (hfree : s.ant.busy = false) : s.gen = .invalid := by
  cases hg : s.gen with
  | invalid => rfl
  | pulse tx p => simp [((genOk_pulse_iff hg).mp h).1] at hfree
  | fixed tx f => simp [((genOk_fixed_iff hg).mp h).1] at hfree

theorem tokensOf_eq_cons {terminated : Bool} {k : Token} {rest : List Token}
    (h : tokensOf tx terminated = k :: rest) : terminated = true ∧ rest = [] := by
  cases terminated with
  | false => cases h
  | true => exact ⟨rfl, (List.cons.inj h).2.symm⟩

/-- A queued token is the running generator's only one; that generator has terminated, so the line is low
(44_dispatcher.md R202; 30_encoding.md R91). -/
theorem GenOk.of_token (h : GenOk s) {k : Token} {rest : List Token} (hcq : s.cq = k :: rest) :
    s.ant.busy = true ∧ rest = [] ∧ s.out = false := by
  cases hg : s.gen with
  | invalid =>
    obtain ⟨-, hempty, -⟩ := (genOk_invalid_iff hg).mp h
    exact absurd (hcq.symm.trans hempty) (List.cons_ne_nil k rest)
  | pulse tx p =>
    obtain ⟨hbusy, -, -, -, hq, name, q, -, hok⟩ := (genOk_pulse_iff hg).mp h
    obtain ⟨hterm, hrest⟩ := tokensOf_eq_cons (hq.symm.trans hcq)
    exact ⟨hbusy, hrest, hok.quiet_of_terminated hterm⟩
  | fixed tx f =>
    obtain ⟨hbusy, -, -, -, -, hq, name, q, -, hok⟩ := (genOk_fixed_iff hg).mp h
    obtain ⟨hterm, hrest⟩ := tokensOf_eq_cons (hq.symm.trans hcq)
    exact ⟨hbusy, hrest, hok.quiet_of_terminated hterm⟩

/-! ### `TERM` with the queue in order: the flag set, one token queued, whether it is the first or a trailing one -/

theorem terminate_pulse {p : PulseRegs} (h : terminate s = .next t) (hg : s.gen = .pulse tx p)
    (hcq : s.cq = tokensOf tx p.terminated) :
    t = (s.setGen (.pulse tx { p with terminated := true })).setCq (tokensOf tx true) := by
  obtain ⟨tx', p', hg', hterm, rfl⟩ | ⟨tx', f, hg', -⟩ | ⟨tx', p', hg', hterm, -, rfl⟩ | ⟨tx', f, hg', -⟩ :=
    terminate_eq_next.mp h
  · obtain ⟨rfl, rfl⟩ := Gen.pulse.inj (hg.symm.trans hg')
    rw [← hterm, ← hcq, ← hg]
    rfl
  · simp [hg] at hg'
  · obtain ⟨rfl, rfl⟩ := Gen.pulse.inj (hg.symm.trans hg')
    rw [hcq, hterm]
    rfl
  · simp [hg] at hg'

theorem terminate_fixed {f : FixedRegs} (h : terminate s = .next t) (hg : s.gen = .fixed tx f)
    (hcq : s.cq = tokensOf tx f.terminated) :
    t = (s.setGen (.fixed tx { f with terminated := true })).setCq (tokensOf tx true) := by
  obtain ⟨tx', p, hg', -⟩ | ⟨tx', f', hg', hterm, rfl⟩ | ⟨tx', p, hg', -⟩ | ⟨tx', f', hg', hterm, -, rfl⟩ :=
    terminate_eq_next.mp h
  · simp [hg] at hg'
  · obtain ⟨rfl, rfl⟩ := Gen.fixed.inj (hg.symm.trans hg')
    rw [← hterm, ← hcq, ← hg]
    rfl
  · simp [hg] at hg'
  · obtain ⟨rfl, rfl⟩ := Gen.fixed.inj (hg.symm.trans hg')
    rw [hcq, hterm]
    rfl

/-! ### The interrupt events -/

theorem genOk_brise (h : GenOk s) (hlegal : s.cfg.legal = true) (hx : execBrise s = .next t) : GenOk t := by
  obtain ⟨-, hlow, tx, p, u, hg, hu, rfl⟩ := execBrise_eq_next.mp hx
  obtain ⟨hb, ha, hon, hoff, hq, name, q, hd, hok⟩ := (genOk_pulse_iff hg).mp h
  obtain ⟨hc, rfl⟩ | ⟨hc, hnext, rfl⟩ | ⟨-, hnext, name', q', hd', ⟨hbit, hcode⟩ | ⟨hbit, hcheck⟩⟩ :=
    riseStage_eq_next.mp hu
  · -- stage SYNC
    have hstart : s.cfg.syncCycles ≤ codeStart s.cfg := Nat.le_add_right _ _
    have hmoved := hok.rise_before_start hlow (hc.trans_le (hstart.trans hok.codeStart_le_nextRepStart))
    exact genOk_of_pulse hmoved hg rfl (decide_eq_true hc).symm rfl hb ha hon hoff hq hd
  · -- stage WAIT
    exact genOk_of_pulse (hok.rise_before_start hlow hnext) hg rfl (decide_eq_false hc.not_gt).symm rfl hb ha hon hoff
      hq hd
  · -- stage CODE
    obtain ⟨-, rfl⟩ : name = name' ∧ q = q' := by simpa [hd] using hd'
    obtain ⟨b, hb', -, -, rfl⟩ := stageCode_eq_next.mp hcode
    exact genOk_of_pulse (hok.rise_code hlegal hlow hnext hbit hb') rfl rfl rfl rfl hb ha hon hoff hq hd
  · -- stage REPEAT-CHECK
    obtain ⟨-, rfl⟩ : name = name' ∧ q = q' := by simpa [hd] using hd'
    obtain ⟨-, ⟨hreps, hterm⟩ | ⟨hreps, -, rfl⟩⟩ := stageRepeatCheck_eq_next.mp hcheck
    · rw [terminate_pulse hterm rfl hq]
      exact genOk_of_pulse (hok.rise_terminated hlow hnext hbit hreps) rfl rfl rfl rfl hb ha hon hoff rfl hd
    · exact genOk_of_pulse (hok.rise_next_repetition hlow hnext hbit hreps) rfl rfl rfl rfl hb ha hon hoff hq hd

theorem genOk_bfall (h : GenOk s) (hx : execBfall s = .next t) : GenOk t := by
  obtain ⟨-, hhigh, tx, p, hg, -, rfl⟩ := execBfall_eq_next.mp hx
  obtain ⟨hb, ha, hon, hoff, hq, name, q, hd, hok⟩ := (genOk_pulse_iff hg).mp h
  exact genOk_of_pulse (hok.fall hhigh) rfl rfl rfl rfl hb ha hon hoff hq hd

theorem genOk_stick (h : GenOk s) (hx : execStick s = .next t) : GenOk t := by
  obtain ⟨-, tx, p, hg, rfl⟩ := execStick_eq_next.mp hx
  obtain ⟨hb, ha, hon, hoff, hq, name, q, hd, hok⟩ := (genOk_pulse_iff hg).mp h
  split
  case isTrue hrun =>
    unfold oscTick
    split
    case isTrue =>
      exact genOk_of_pulse (hok.tick_exhausted hrun) rfl rfl rfl rfl hb ha hon hoff hq hd
    case isFalse hbudget =>
      exact genOk_of_pulse (hok.tick_flips hrun hbudget) rfl rfl rfl rfl hb ha hon hoff hq hd
  case isFalse => exact h.congr rfl rfl rfl rfl rfl rfl rfl fun _ _ => rfl

theorem genOk_ftick (h : GenOk s) (hx : execFtick s = .next t) : GenOk t := by
  obtain ⟨-, tx, f, u, hg, hu, tx', g, hug, -, rfl⟩ := execFtick_eq_next.mp hx
  obtain ⟨hb, ha, hon, hlow, hoff, hq, name, q, hd, hok⟩ := (genOk_fixed_iff hg).mp h
  obtain ⟨hnext, rfl⟩ | ⟨hnext, name', q', hd', ⟨hbit, hcheck⟩ | ⟨hbit, hemit⟩⟩ := tickBranch_eq_next.mp hu
  · -- branch hold
    obtain ⟨rfl, rfl⟩ := Gen.fixed.inj (hg.symm.trans hug)
    exact genOk_of_fixed (hok.tick_hold hnext) rfl rfl hb ha hon hlow hoff hq hd
  · -- branch repetition check
    obtain ⟨-, rfl⟩ : name = name' ∧ q = q' := by simpa [hd] using hd'
    obtain ⟨-, ⟨hreps, hterm⟩ | ⟨hreps, -, rfl⟩⟩ := branchRepCheck_eq_next.mp hcheck
    · obtain rfl := terminate_fixed hterm rfl hq
      obtain ⟨rfl, rfl⟩ := Gen.fixed.inj hug
      exact genOk_of_fixed (hok.tick_terminated hnext hbit hreps) rfl rfl hb ha hon hlow hoff rfl hd
    · obtain ⟨rfl, rfl⟩ := Gen.fixed.inj hug
      exact genOk_of_fixed (hok.tick_next_repetition hnext hbit hreps) rfl rfl hb ha hon hlow hoff hq hd
  · -- branch emit
    obtain ⟨-, rfl⟩ : name = name' ∧ q = q' := by simpa [hd] using hd'
    obtain ⟨l, hl, -, rfl⟩ := branchEmit_eq_next.mp hemit
    obtain ⟨rfl, rfl⟩ := Gen.fixed.inj hug
    exact genOk_of_fixed (hok.tick_emit hnext hbit hl) rfl rfl hb ha hon hlow hoff hq hd

/-! ### The parts of a command -/

/-- Whatever keeps the registers of the invariant keeps it. -/
theorem Inv.congr (h : Inv s) (hcfg : t.cfg = s.cfg) (hstore : t.store = s.store) (hbusy : t.ant.busy = s.ant.busy)
    (hactive : t.ant.active = s.ant.active) (hout : t.out = s.out) (hgen : t.gen = s.gen) (htmr : t.tmr = s.tmr)
    (hcq : t.cq = s.cq) (hboot : t.bootClosed = false → s.bootClosed = false ∧ t.log = s.log) : Inv t where
  legal := by rw [hcfg]; exact h.legal
  store_wf := by rw [hstore]; exact h.store_wf
  antenna := by rw [hbusy, hactive]; exact h.antenna
  gen := h.gen.congr hcfg hbusy hactive hout hgen htmr hcq fun _ _ => by rw [readDescriptor, readDescriptor, hstore]
  boot_first hopen := by
    obtain ⟨hopen', hlog⟩ := hboot hopen
    rw [hbusy, hlog]
    exact h.boot_first hopen'

theorem Inv.setReply (h : Inv s) (r : Reply) : Inv (s.setReply r) :=
  h.congr rfl rfl rfl rfl rfl rfl rfl rfl fun hopen => ⟨hopen, rfl⟩

theorem Inv.addLog (h : Inv s) (hclosed : s.bootClosed = true) (e : Event) : Inv (s.addLog e) :=
  h.congr rfl rfl rfl rfl rfl rfl rfl rfl fun hopen => absurd (hopen.symm.trans hclosed) (by decide)

theorem Inv.bootClosed_of_busy (h : Inv s) (hbusy : s.ant.busy = true) : s.bootClosed = true := by
  by_contra hopen
  have := (h.boot_first (by simpa using hopen)).1
  simp [hbusy] at this

/-- An idle engine keeps the invariant while it takes or frees the antenna. -/
theorem Inv.idle_antenna (h : Inv s) (hidle : s.gen = .invalid) (hclosed : s.bootClosed = true) {a : Antenna}
    {log : List Event} (hant : a.busy = a.active.isSome) : Inv { s with ant := a, log := log } where
  legal := h.legal
  store_wf := h.store_wf
  antenna := hant
  gen := by
    obtain ⟨htmr, hcq, hout⟩ := (genOk_invalid_iff hidle).mp h.gen
    exact genOk_of_invalid hidle htmr hcq hout
  boot_first hopen := absurd (hopen.symm.trans hclosed) (by decide)

theorem Inv.taken (h : Inv s) (hfree : s.ant.busy = false) (hclosed : s.bootClosed = true) :
    Inv (takeAntenna tx s) :=
  h.idle_antenna (h.gen.invalid_of_free hfree) hclosed rfl

theorem Inv.freed (h : Inv s) (hidle : s.gen = .invalid) (hclosed : s.bootClosed = true) : Inv (free s) :=
  h.idle_antenna hidle hclosed rfl

/-- `BEGIN` loads the generator of the admitted descriptor (41_generator_interface.md R131, R132). -/
theorem Inv.loaded (h : Inv s) (hidle : s.gen = .invalid) (hbusy : s.ant.busy = true)
    (hactive : s.ant.active = some tx) {d : Descriptor} (hd : readDescriptor s tx = some d)
    (hok : descriptorOk d = true) (hload : loadGenerator tx d.variant s = .next t) : Inv t := by
  obtain ⟨htmr, hcq, hout⟩ := (genOk_invalid_iff hidle).mp h.gen
  obtain ⟨name, payload⟩ := d
  have hboot : s.bootClosed = false → s.ant.busy = false ∧ s.log = [] := h.boot_first
  cases payload with
  | pulse q =>
    obtain ⟨-, rfl⟩ := loadPulse_eq_next.mp hload
    refine ⟨h.legal, h.store_wf, h.antenna, ?_, hboot⟩
    have hloaded := PulseOk.loaded (s := setBaseLevel false s) hok hout rfl
    exact genOk_of_pulse hloaded rfl rfl rfl rfl hbusy hactive rfl (congrArg Timers.fixedOn htmr) hcq hd
  | fixed q =>
    obtain rfl := Host.Outcome.next.inj hload
    refine ⟨h.legal, h.store_wf, h.antenna, ?_, hboot⟩
    exact genOk_of_fixed (.loaded hok hout) rfl rfl hbusy hactive (congrArg Timers.baseOn htmr)
      (congrArg Timers.baseLevel htmr) rfl hcq hd

/-- The first two steps of a clean-up leave the engine idle, and the antenna as it is (44_dispatcher.md R198). -/
theorem Inv.stopped (h : Inv s) {k : Token} {rest : List Token} (hcq : s.cq = k :: rest) :
    Inv (stopGenerator (s.setCq rest)) := by
  obtain ⟨-, hrest, hout⟩ := h.gen.of_token hcq
  exact ⟨h.legal, h.store_wf, h.antenna, genOk_of_invalid rfl rfl hrest hout, h.boot_first⟩

/-! ### The commands -/

theorem Inv.acq (h : Inv s) (hclosed : s.bootClosed = true) (hx : execAcq tx s = .next t) : Inv t := by
  unfold execAcq at hx
  split at hx
  case isTrue =>
    obtain rfl := next_eq_next.mp hx
    exact h.setReply _
  case isFalse hfree =>
    obtain rfl := next_eq_next.mp hx
    exact (h.taken (by simpa using hfree) hclosed).setReply _

theorem Inv.rel (h : Inv s) (hx : execRel s = .next t) : Inv t := by
  obtain ⟨-, rfl⟩ | ⟨hbusy, hidle, rfl⟩ := execRel_eq_next.mp hx
  · exact h.setReply _
  · exact (h.freed (generatorIdle_iff.mp hidle).1 (h.bootClosed_of_busy hbusy)).setReply _

theorem Inv.begin {hw : Bool} (h : Inv s) (hx : execBegin tx hw s = .next t) : Inv t := by
  obtain ⟨hadm, hidle, d, hd, hok, ⟨-, rfl⟩ | ⟨-, u, hload, rfl⟩⟩ := execBegin_eq_next.mp hx
  · exact h.setReply _
  · obtain ⟨hbusy, hactive⟩ := admittedIs_iff.mp hadm
    exact (h.loaded (generatorIdle_iff.mp hidle).1 hbusy hactive hd hok hload).setReply _

theorem Inv.request {hw : Bool} (h : Inv s) (hclosed : s.bootClosed = true)
    (hx : Machine.request tx hw s = .next t) : Inv t := by
  obtain ⟨-, rfl⟩ | ⟨hfree, hidle, d, hd, hok, hcase⟩ := request_eq_next.mp hx
  · exact (h.addLog hclosed _).setReply _
  have htaken : Inv (takeAntenna tx s) := h.taken hfree hclosed
  have hgen : (takeAntenna tx s).gen = .invalid := (generatorIdle_iff.mp hidle).1
  obtain ⟨-, rfl⟩ | ⟨-, u, hload, rfl⟩ := hcase
  · exact (htaken.freed hgen hclosed).setReply _
  · have hu : Inv u := htaken.loaded hgen rfl rfl hd hok hload
    obtain ⟨g, tm, rfl⟩ := loadGenerator_writes hload
    exact (hu.addLog hclosed _).setReply _

theorem Inv.reqi {n : Nat} {hw : Bool} (h : Inv s) (hclosed : s.bootClosed = true)
    (hx : execReqi n hw s = .next t) : Inv t := by
  unfold execReqi at hx
  split at hx
  · obtain rfl := next_eq_next.mp hx
    exact (h.addLog hclosed _).setReply _
  · exact h.request hclosed hx

theorem Inv.dispatch (h : Inv s) (hx : execDispatch s = .next t) : Inv t := by
  obtain ⟨-, rfl⟩ | ⟨k, rest, hcq, rfl⟩ := execDispatch_eq_next.mp hx
  · exact h.setReply _
  · obtain ⟨hbusy, -, -⟩ := h.gen.of_token hcq
    have hclosed := h.bootClosed_of_busy hbusy
    have hfreed : Inv (free (stopGenerator (s.setCq rest))) := (h.stopped hcq).freed rfl hclosed
    rw [cleanedUp, if_pos (by exact hbusy)]
    exact (hfreed.addLog hclosed _).setReply _

/-- A command keeps the invariant; the mark that closes boot is set before a request runs. -/
theorem Inv.task {i : Instr} (h : Inv s) (hclass : opClassOf i = .task)
    (hclosed : isRequest i = true → s.bootClosed = true) (hx : exec i s = .next t) : Inv t := by
  cases i with
  | acq tx => exact h.acq (hclosed rfl) hx
  | rel => exact h.rel hx
  | bsy =>
    obtain rfl := next_eq_next.mp hx
    exact h.setReply _
  | begin tx hw => exact h.begin hx
  | dispatch => exact h.dispatch hx
  | req tx hw => exact h.request (hclosed rfl) hx
  | reqi n hw => exact h.reqi (hclosed rfl) hx
  | _ => cases hclass

theorem genOk_event {i : Instr} (h : Inv s) (hclass : opClassOf i = .event) (hx : exec i s = .next t) : GenOk t := by
  cases i with
  | brise => exact genOk_brise h.gen h.legal hx
  | bfall => exact genOk_bfall h.gen hx
  | stick => exact genOk_stick h.gen hx
  | ftick => exact genOk_ftick h.gen hx
  | _ => cases hclass

/-- An interrupt event keeps the invariant: beside the generator slot's part it writes none of its registers. -/
theorem Inv.event {i : Instr} (h : Inv s) (hclass : opClassOf i = .event) (hx : exec i s = .next t) : Inv t := by
  have hgen := genOk_event h hclass hx
  obtain ⟨out, gen, level, cq, rfl, -⟩ := event_writes hclass hx
  exact ⟨h.legal, h.store_wf, h.antenna, hgen, h.boot_first⟩

/-! ### The three kinds of input -/

theorem Inv.operation {i : Instr} {rest : List Input} (h : Inv s) (hclass : opClassOf i ≠ .primitive)
    (hx : exec i (noteRequest i { s with inputs := rest }) = .next t) : Inv t := by
  have hnoted : Inv (noteRequest i { s with inputs := rest }) :=
    h.congr rfl rfl rfl rfl rfl rfl rfl rfl fun hopen => ⟨(Bool.or_eq_false_iff.mp hopen).1, rfl⟩
  cases hc : opClassOf i with
  | task => exact hnoted.task hc (fun hreq => by simp [hreq]) hx
  | event => exact hnoted.event hc hx
  | primitive => exact absurd hc hclass

theorem Inv.descriptor {d : Option Descriptor} (h : Inv s) (hx : writeDescriptor tx d s = .next t) : Inv t := by
  obtain ⟨hsame, rfl⟩ := writeDescriptor_eq_next.mp hx
  refine ⟨h.legal, Memory.write_wf tx d h.store_wf, h.antenna, ?_, h.boot_first⟩
  refine h.gen.congr rfl rfl rfl rfl rfl rfl rfl fun a ha => ?_
  change Memory.read (Memory.write s.store tx d) a = _
  by_cases hat : a = tx
  · subst hat
    rw [Memory.read_write_same, hsame (by simp [borrowed, ha])]
  · exact Memory.read_write_other s.store d hat

theorem Inv.boot {b : Boot} (h : Inv s) (hx : bootWith b s = .next t) : Inv t := by
  obtain ⟨hlegal, hopen, rfl⟩ := bootWith_eq_next.mp hx
  obtain ⟨-, -, hidle, -, -⟩ := bootOpen_iff.mp hopen
  have hgen : s.gen = .invalid := (generatorIdle_iff.mp hidle).1
  obtain ⟨htmr, hcq, hout⟩ := (genOk_invalid_iff hgen).mp h.gen
  exact ⟨hlegal, h.store_wf, h.antenna, genOk_of_invalid hgen htmr hcq hout, nofun⟩

/-- A word from outside the engine names no internal primitive (30_encoding.md R94). -/
theorem class_of_issue_outside {o : Origin} {w : OpWord} {a : Operands} {i : Instr} (ho : originOutside o = true)
    (h : issue o w a s = .ok i) : opClassOf i ≠ .primitive := by
  obtain ⟨-, hdec, -⟩ := issue_eq_ok.mp h
  rw [ho] at hdec
  unfold decode at hdec
  split at hdec
  · cases hdec
  · split at hdec
    · cases hdec
    case isFalse hp =>
      cases hdec
      simpa using hp

/-- A step takes inputs off the front of the schedule and adds none. -/
theorem step_inputs (h : step s = .next t) : ∀ x ∈ t.inputs, x ∈ s.inputs := by
  intro x hmem
  obtain ⟨-, rfl⟩ | ⟨o, w, a, rest, i, hin, -, hx⟩ | ⟨tx, d, rest, hin, hx⟩ | ⟨b, rest, hin, hx⟩ := step_eq_next.mp h
  · exact hmem
  · obtain ⟨busy, active, out, gen, tmr, cq, events, reply, rfl⟩ := exec_writes hx
    rw [hin]
    exact List.mem_cons_of_mem _ hmem
  · obtain ⟨-, rfl⟩ := writeDescriptor_eq_next.mp hx
    rw [hin]
    exact List.mem_cons_of_mem _ hmem
  · obtain ⟨-, -, rfl⟩ := bootWith_eq_next.mp hx
    rw [hin]
    exact List.mem_cons_of_mem _ hmem

theorem Inv.step (h : Inv s) (houtside : OutsideOnly s) (hx : Machine.step s = .next t) : Inv t := by
  obtain ⟨-, rfl⟩ | ⟨o, w, a, rest, i, hin, hi, hx⟩ | ⟨tx, d, rest, hin, hx⟩ | ⟨b, rest, hin, hx⟩ :=
    step_eq_next.mp hx
  · exact h
  · have ho : originOutside o = true := houtside (.operation o w a) (by simp [hin])
    exact h.operation (class_of_issue_outside ho hi) hx
  · have htaken : Inv { s with inputs := rest } :=
      h.congr rfl rfl rfl rfl rfl rfl rfl rfl fun hopen => ⟨hopen, rfl⟩
    exact htaken.descriptor hx
  · have htaken : Inv { s with inputs := rest } :=
      h.congr rfl rfl rfl rfl rfl rfl rfl rfl fun hopen => ⟨hopen, rfl⟩
    exact htaken.boot hx

/-- Settles O50: every input of the outside keeps the invariant, and no operation presents anything. -/
theorem invariantIsKeptByEveryStep : Obligations.InvariantIsKeptByEveryStep := by
  intro s t h houtside hx
  exact ⟨h.step houtside hx, fun x hmem => houtside x (step_inputs hx x hmem)⟩

theorem inv_init {cfg : Params} {signals : List (Nat × TxRef)} {store : List (TxRef × Descriptor)}
    (hlegal : cfg.legal = true) (hstore : Memory.wf store = true) : Inv (State.init cfg signals store) :=
  ⟨hlegal, hstore, rfl, genOk_of_invalid rfl rfl rfl rfl, fun _ => ⟨rfl, rfl⟩⟩

/-- Settles O49: reset is the construction for the named configuration. -/
theorem invariantHoldsAtReset : Obligations.InvariantHoldsAtReset :=
  ⟨inv_init (by decide) rfl, nofun, fun _ _ _ => inv_init⟩

/-- Settles O48: every one of these is a field of the construction. -/
theorem resetLeavesTheEngineIdle : Obligations.ResetLeavesTheEngineIdle :=
  ⟨rfl, rfl, rfl, rfl, rfl, rfl, rfl, rfl⟩

end Sys2Proof.Safety
end

section
/-! Counters and their width (10_state.md R52 to R54): every write keeps them below it, and each addition that would not
is refused. -/

namespace Sys2Proof.Safety

open Sys2Proof.Machine

variable {s t : State} {tx : TxRef}

/-! ### The width -/

theorem fits_mono {c : Params} {v v' : Nat} (h : fits c v = true) (hle : v' ≤ v) : fits c v' = true := by
  cases hc : c.ctrW with
  | none => simp only [fits, hc]
  | some w =>
    simp only [fits, hc, decide_eq_true_eq] at h ⊢
    exact hle.trans_lt h

theorem fits_zero (c : Params) : fits c 0 = true := by
  cases hc : c.ctrW with
  | none => simp only [fits, hc]
  | some w => simp only [fits, hc, Nat.two_pow_pos, decide_true]

theorem fits_repStart {c : Params} {L k : Nat} (h : repStartFits c L k = true) : fits c (repStart c L k) = true :=
  (Bool.and_eq_true_iff.mp h).2

theorem fits_eq_false {c : Params} {w v : Nat} (hw : c.ctrW = some w) (hv : 2 ^ w ≤ v) : fits c v = false := by
  simp [fits, hw, hv]

theorem requireFits_eq_refused_of_not_fits {c : Params} {v : Nat} {k : Run State} (h : fits c v = false) :
    requireFits c v k = .refused .counterOverflow := by
  simp [requireFits, h]

/-- Where the rest is refused `CounterOverflow`, it does not matter whether the value fits. -/
theorem requireFits_eq_refused_of_rest {c : Params} {v : Nat} {k : Run State} (h : k = .refused .counterOverflow) :
    requireFits c v k = .refused .counterOverflow := by
  simp [requireFits, h]

/-! ### Every write keeps the counters below the width -/

theorem countersFit_of_invalid (hg : s.gen = .invalid) : CountersFit s := by
  simp only [CountersFit, hg]

theorem countersFit_pulse_iff {p : PulseRegs} (hg : s.gen = .pulse tx p) :
    CountersFit s ↔ fits s.cfg p.c = true ∧ fits s.cfg p.bitIdx = true ∧ fits s.cfg p.oscBudget = true ∧
      fits s.cfg p.nextRepStart = true ∧ fits s.cfg p.repsSent = true := by
  simp only [CountersFit, hg]

theorem countersFit_fixed_iff {f : FixedRegs} (hg : s.gen = .fixed tx f) :
    CountersFit s ↔ fits s.cfg f.t = true ∧ fits s.cfg f.bitIdx = true ∧ fits s.cfg f.repIdx = true ∧
      fits s.cfg f.nextRepStart = true := by
  simp only [CountersFit, hg]

/-- `CountersFit` speaks of configuration and generator slot only. -/
theorem CountersFit.congr (h : CountersFit s) (hcfg : t.cfg = s.cfg) (hgen : t.gen = s.gen) : CountersFit t := by
  unfold CountersFit at h ⊢
  rw [hgen, hcfg]
  exact h

/-- The terminated flags are no counters. -/
theorem CountersFit.terminate (h : CountersFit s) (hx : Machine.terminate s = .next t) : CountersFit t := by
  obtain ⟨tx, p, -, -, rfl⟩ | ⟨tx, f, -, -, rfl⟩ | ⟨tx, p, hg, -, -, rfl⟩ | ⟨tx, f, hg, -, -, rfl⟩ :=
    terminate_eq_next.mp hx
  · exact h
  · exact h
  · refine (countersFit_pulse_iff rfl).mpr ?_
    exact (countersFit_pulse_iff hg).mp h
  · refine (countersFit_fixed_iff rfl).mpr ?_
    exact (countersFit_fixed_iff hg).mp h

theorem CountersFit.riseStage {p : PulseRegs} (h : CountersFit s) (hg : s.gen = .pulse tx p)
    (hx : Machine.riseStage tx p s = .next t) : CountersFit t := by
  obtain ⟨hc, hbit, hbudget, hnext, hreps⟩ := (countersFit_pulse_iff hg).mp h
  obtain ⟨-, rfl⟩ | ⟨-, -, rfl⟩ | ⟨-, -, name, q, -, ⟨-, hcode⟩ | ⟨-, hcheck⟩⟩ := riseStage_eq_next.mp hx
  · exact h.congr rfl rfl
  · exact h.congr rfl rfl
  · obtain ⟨b, -, hbit', hbudget', rfl⟩ := stageCode_eq_next.mp hcode
    refine (countersFit_pulse_iff rfl).mpr ?_
    exact ⟨hc, hbit', hbudget', hnext, hreps⟩
  · obtain ⟨hreps', ⟨-, hterm⟩ | ⟨-, hstart, rfl⟩⟩ := stageRepeatCheck_eq_next.mp hcheck
    · have hcounted : CountersFit ((s.setGen (.pulse tx { p with repsSent := p.repsSent + 1 })).setOut false) := by
        refine (countersFit_pulse_iff rfl).mpr ?_
        exact ⟨hc, hbit, hbudget, hnext, hreps'⟩
      exact hcounted.terminate hterm
    · refine (countersFit_pulse_iff rfl).mpr ?_
      exact ⟨hc, fits_zero _, hbudget, fits_repStart hstart, hreps'⟩

theorem CountersFit.bfall (h : CountersFit s) (hx : execBfall s = .next t) : CountersFit t := by
  obtain ⟨-, -, tx, p, hg, hc', rfl⟩ := execBfall_eq_next.mp hx
  obtain ⟨-, hbit, hbudget, hnext, hreps⟩ := (countersFit_pulse_iff hg).mp h
  refine (countersFit_pulse_iff rfl).mpr ?_
  exact ⟨hc', hbit, hbudget, hnext, hreps⟩

theorem CountersFit.stick (h : CountersFit s) (hx : execStick s = .next t) : CountersFit t := by
  obtain ⟨-, tx, p, hg, rfl⟩ := execStick_eq_next.mp hx
  obtain ⟨hc, hbit, hbudget, hnext, hreps⟩ := (countersFit_pulse_iff hg).mp h
  split
  · unfold oscTick
    split
    · refine (countersFit_pulse_iff rfl).mpr ?_
      exact ⟨hc, hbit, hbudget, hnext, hreps⟩
    · refine (countersFit_pulse_iff rfl).mpr ?_
      exact ⟨hc, hbit, fits_mono hbudget (Nat.sub_le _ _), hnext, hreps⟩
  · exact h.congr rfl rfl

theorem CountersFit.tickBranch {f : FixedRegs} (h : CountersFit s) (hg : s.gen = .fixed tx f)
    (hx : Machine.tickBranch tx f s = .next t) : CountersFit t := by
  obtain ⟨ht, hbit, hreps, hnext⟩ := (countersFit_fixed_iff hg).mp h
  obtain ⟨-, rfl⟩ | ⟨-, name, q, -, ⟨-, hcheck⟩ | ⟨-, hemit⟩⟩ := tickBranch_eq_next.mp hx
  · exact h.congr rfl rfl
  · obtain ⟨hreps', ⟨-, hterm⟩ | ⟨-, hstart, rfl⟩⟩ := branchRepCheck_eq_next.mp hcheck
    · have hcounted : CountersFit ((s.setOut false).setGen (.fixed tx { f with repIdx := f.repIdx + 1 })) := by
        refine (countersFit_fixed_iff rfl).mpr ?_
        exact ⟨ht, hbit, hreps', hnext⟩
      exact hcounted.terminate hterm
    · refine (countersFit_fixed_iff rfl).mpr ?_
      exact ⟨ht, fits_zero _, hreps', hstart⟩
  · obtain ⟨l, -, hbit', rfl⟩ := branchEmit_eq_next.mp hemit
    refine (countersFit_fixed_iff rfl).mpr ?_
    exact ⟨ht, hbit', hreps, hnext⟩

theorem CountersFit.event {i : Instr} (h : CountersFit s) (hclass : opClassOf i = .event)
    (hx : exec i s = .next t) : CountersFit t := by
  cases i with
  | brise =>
    obtain ⟨-, -, tx, p, u, hg, hu, rfl⟩ := execBrise_eq_next.mp hx
    exact (h.riseStage hg hu).congr rfl rfl
  | bfall => exact h.bfall hx
  | stick => exact h.stick hx
  | ftick =>
    obtain ⟨-, tx, f, u, hg, hu, tx', g, hug, ht', rfl⟩ := execFtick_eq_next.mp hx
    obtain ⟨-, hbit, hreps, hnext⟩ := (countersFit_fixed_iff hug).mp (h.tickBranch hg hu)
    refine (countersFit_fixed_iff rfl).mpr ?_
    exact ⟨ht', hbit, hreps, hnext⟩
  | _ => cases hclass

/-- What `BEGIN` loads fits, whatever the generator slot held. -/
theorem countersFit_of_loadGenerator {v : Variant} (hx : loadGenerator tx v s = .next t) : CountersFit t := by
  cases v with
  | pulse =>
    obtain ⟨hstart, rfl⟩ := loadPulse_eq_next.mp hx
    refine (countersFit_pulse_iff rfl).mpr ?_
    exact ⟨fits_zero _, fits_zero _, fits_zero _, hstart, fits_zero _⟩
  | fixed =>
    obtain rfl := Host.Outcome.next.inj hx
    refine (countersFit_fixed_iff rfl).mpr ?_
    exact ⟨fits_zero _, fits_zero _, fits_zero _, fits_zero _⟩

theorem CountersFit.begin {hw : Bool} (h : CountersFit s) (hx : execBegin tx hw s = .next t) : CountersFit t := by
  obtain ⟨-, -, d, -, -, ⟨-, rfl⟩ | ⟨-, u, hload, rfl⟩⟩ := execBegin_eq_next.mp hx
  · exact h.congr rfl rfl
  · exact (countersFit_of_loadGenerator hload).congr rfl rfl

theorem CountersFit.request {hw : Bool} (h : CountersFit s) (hx : Machine.request tx hw s = .next t) :
    CountersFit t := by
  obtain ⟨-, rfl⟩ | ⟨-, -, d, -, -, ⟨-, rfl⟩ | ⟨-, u, hload, rfl⟩⟩ := request_eq_next.mp hx
  · exact h.congr rfl rfl
  · exact h.congr rfl rfl
  · exact (countersFit_of_loadGenerator hload).congr rfl rfl

/-- A command or a clean-up that loads no generator leaves the slot alone or empties it. -/
theorem CountersFit.task {i : Instr} (h : CountersFit s) (hw : TaskWrites i s t) (hi : ¬ LoadsGenerator i) :
    CountersFit t := by
  obtain ⟨busy, active, gen, tmr, cq, events, reply, rfl, rfl | ⟨-, hload⟩ | ⟨rfl, -⟩⟩ := hw
  · exact h.congr rfl rfl
  · exact absurd hload hi
  · exact countersFit_of_invalid rfl

theorem CountersFit.exec {i : Instr} (h : CountersFit s) (hx : Machine.exec i s = .next t) : CountersFit t := by
  cases i with
  | begin tx hw => exact h.begin hx
  | req tx hw => exact h.request hx
  | reqi n hw =>
    change execReqi n hw s = .next t at hx
    unfold execReqi at hx
    split at hx
    · obtain rfl := next_eq_next.mp hx
      exact h.congr rfl rfl
    · exact h.request hx
  | acq tx => exact h.task (task_writes rfl hx) (by simp [LoadsGenerator])
  | rel => exact h.task (task_writes rfl hx) (by simp [LoadsGenerator])
  | bsy => exact h.task (task_writes rfl hx) (by simp [LoadsGenerator])
  | dispatch => exact h.task (task_writes rfl hx) (by simp [LoadsGenerator])
  | cleanup tx => exact h.task (execCleanup_writes hx) (by simp [LoadsGenerator])
  | brise | bfall | stick | ftick => exact h.event rfl hx
  | setout l =>
    obtain rfl := finish_eq_next.mp hx
    exact h.congr rfl rfl
  | term =>
    obtain ⟨u, hu, rfl⟩ := execTerm_eq_next.mp hx
    exact (h.terminate hu).congr rfl rfl
  | sched fn tx =>
    obtain ⟨-, rfl⟩ := execSched_eq_next.mp hx
    exact h.congr rfl rfl

theorem CountersFit.step (h : CountersFit s) (hx : Machine.step s = .next t) : CountersFit t := by
  obtain ⟨-, rfl⟩ | ⟨o, w, a, rest, i, -, -, hx⟩ | ⟨tx, d, rest, -, hx⟩ | ⟨b, rest, -, hx⟩ := step_eq_next.mp hx
  · exact h
  · have hnoted : CountersFit (noteRequest i { s with inputs := rest }) := h.congr rfl rfl
    exact hnoted.exec hx
  · obtain ⟨-, rfl⟩ := writeDescriptor_eq_next.mp hx
    exact h.congr rfl rfl
  · obtain ⟨-, hopen, rfl⟩ := bootWith_eq_next.mp hx
    obtain ⟨-, -, hidle, -, -⟩ := bootOpen_iff.mp hopen
    exact countersFit_of_invalid (generatorIdle_iff.mp hidle).1

/-! ### Refusals of the pulse-code handlers -/

section
variable {p : PulseRegs} {q : PulsePayload} {name : String}

theorem withPulse_eq (hg : s.gen = .pulse tx p) (k : TxRef → PulseRegs → Run State) : withPulse s k = k tx p := by
  rw [withPulse, hg]

theorem withPulsePayload_eq (hd : readDescriptor s tx = some ⟨name, .pulse q⟩) (k : PulsePayload → Run State) :
    withPulsePayload s tx k = k q := by
  rw [withPulsePayload, hd]

theorem execBfall_refused (hg : s.gen = .pulse tx p) (hon : s.tmr.baseOn = true) (hhigh : s.tmr.baseLevel = true)
    (hfit : fits s.cfg (p.c + 1) = false) : execBfall s = .refused .counterOverflow := by
  have henabled : bfallEnabled s = true := bfallEnabled_iff.mpr ⟨by rw [hg]; rfl, hon, hhigh⟩
  rw [execBfall, if_pos henabled, withPulse_eq hg, requireFits_eq_refused_of_not_fits hfit]

/-- `BRISE` is refused for the reason its stage is. -/
theorem execBrise_refused {r : Refusal} (hg : s.gen = .pulse tx p) (hon : s.tmr.baseOn = true)
    (hlow : s.tmr.baseLevel = false) (hx : riseStage tx p s = .refused r) : execBrise s = .refused r := by
  have henabled : briseEnabled s = true := briseEnabled_iff.mpr ⟨by rw [hg]; rfl, hon, hlow⟩
  rw [execBrise, if_pos henabled, withPulse_eq hg, hx, andThen_refused]

/-- From the start of a repetition on, the descriptor's length decides between CODE and REPEAT-CHECK
(42_pulse_code.md R150). -/
theorem riseStage_of_started (hsync : s.cfg.syncCycles ≤ p.c) (hnext : p.nextRepStart ≤ p.c)
    (hd : readDescriptor s tx = some ⟨name, .pulse q⟩) :
    riseStage tx p s = if p.bitIdx < q.L then stageCode tx p q s else stageRepeatCheck tx p q s := by
  rw [riseStage, if_neg hsync.not_gt, if_neg hnext.not_gt, withPulsePayload_eq hd]

theorem stageCode_refused {b : Nat} (hb : codeBit q p.bitIdx = some b)
    (hfit : fits s.cfg (p.bitIdx + 1) = false ∨ fits s.cfg (tickBudget s.cfg b) = false) :
    stageCode tx p q s = .refused .counterOverflow := by
  rw [stageCode, hb]
  obtain hfit | hfit := hfit
  · exact requireFits_eq_refused_of_not_fits hfit
  · exact requireFits_eq_refused_of_rest (requireFits_eq_refused_of_not_fits hfit)

theorem stageRepeatCheck_refused (hreps : p.repsSent + 1 < q.R)
    (hfit : repStartFits s.cfg q.L (p.repsSent + 1) = false) :
    stageRepeatCheck tx p q s = .refused .counterOverflow := by
  rw [stageRepeatCheck, if_neg hreps.not_ge]
  refine requireFits_eq_refused_of_rest ?_
  rw [nextPulseRep, if_neg (by simp [hfit])]

end

/-! ### Refusals of `FTICK` -/

section
variable {f : FixedRegs} {q : FixedPayload} {name : String}

theorem withFixed_eq (hg : s.gen = .fixed tx f) (k : TxRef → FixedRegs → Run State) : withFixed s k = k tx f := by
  rw [withFixed, hg]

theorem withFixedPayload_eq (hd : readDescriptor s tx = some ⟨name, .fixed q⟩) (k : FixedPayload → Run State) :
    withFixedPayload s tx k = k q := by
  rw [withFixedPayload, hd]

theorem execFtick_eq (hg : s.gen = .fixed tx f) (hon : s.tmr.fixedOn = true) :
    execFtick s = andThen (tickBranch tx f s) advanceTick := by
  have henabled : ftickEnabled s = true := ftickEnabled_iff.mpr ⟨by rw [hg]; rfl, hon⟩
  rw [execFtick, if_pos henabled, withFixed_eq hg]

/-- Once a repetition is due, its bit count decides between repetition check and emit (43_fixed_code.md R180). -/
theorem tickBranch_of_started (hnext : f.nextRepStart ≤ f.t) (hd : readDescriptor s tx = some ⟨name, .fixed q⟩) :
    tickBranch tx f s = if f.bitIdx = bitCount q then branchRepCheck tx f q s else branchEmit tx f q s := by
  rw [tickBranch, if_neg hnext.not_gt, withFixedPayload_eq hd]

/-- A branch of a tick that is refused `CounterOverflow` or leaves `F.t` as it is. -/
def KeepsTick (s : State) (f : FixedRegs) (x : Run State) : Prop :=
  x = .refused .counterOverflow ∨ ∃ u tx g, x = .next u ∧ u.cfg = s.cfg ∧ u.gen = .fixed tx g ∧ g.t = f.t

/-- Every branch is followed by the test of `F.t + 1` (43_fixed_code.md R184). -/
theorem KeepsTick.refused {x : Run State} (hx : KeepsTick s f x)
    (hfit : fits s.cfg (f.t + 1) = false) : andThen x advanceTick = .refused .counterOverflow := by
  obtain rfl | ⟨u, tx, g, rfl, hcfg, hg, ht⟩ := hx
  · rfl
  · rw [andThen_next, advanceTick, withFixed_eq hg, hcfg, ht, requireFits_eq_refused_of_not_fits hfit]

theorem dataBit_of_lt {i : Nat} (hlen : q.codeLen = q.data.length) (hi : i < bitCount q) :
    ∃ l, dataBit q i = some l := by
  have hbyte : i / 8 < q.codeLen := by
    unfold bitCount at hi
    omega
  exact ⟨_, by rw [dataBit, dataByte, if_pos hbyte, List.getElem?_eq_getElem (hlen ▸ hbyte), Option.map_some]⟩

theorem terminate_fixed_answers (hg : s.gen = .fixed tx f)
    (hroom : f.terminated = true ∨ s.cq.length < s.cfg.cqDepth) :
    ∃ u g, terminate s = .next u ∧ u.cfg = s.cfg ∧ u.gen = .fixed tx g ∧ g.t = f.t := by
  cases hterm : f.terminated with
  | true => exact ⟨s, f, terminate_eq_next.mpr (.inr (.inl ⟨tx, f, hg, hterm, rfl⟩)), rfl, hg, rfl⟩
  | false =>
    have hspace : s.cq.length < s.cfg.cqDepth := hroom.resolve_left (by simp [hterm])
    exact ⟨_, _, terminate_eq_next.mpr (.inr (.inr (.inr ⟨tx, f, hg, hterm, hspace, rfl⟩))), rfl, rfl, rfl⟩

theorem branchEmit_refused {l : Level} (hl : dataBit q f.bitIdx = some l)
    (hfit : fits s.cfg (f.bitIdx + 1) = false) : branchEmit tx f q s = .refused .counterOverflow := by
  rw [branchEmit, hl]
  exact requireFits_eq_refused_of_not_fits hfit

theorem branchEmit_keepsTick {l : Level} (hl : dataBit q f.bitIdx = some l) :
    KeepsTick s f (branchEmit tx f q s) := by
  cases hfit : fits s.cfg (f.bitIdx + 1) with
  | false => exact .inl (branchEmit_refused hl hfit)
  | true => exact .inr ⟨_, tx, _, branchEmit_eq_next.mpr ⟨l, hl, hfit, rfl⟩, rfl, rfl, rfl⟩

theorem branchRepCheck_refused (hfit : fits s.cfg (f.repIdx + 1) = false) :
    branchRepCheck tx f q s = .refused .counterOverflow :=
  requireFits_eq_refused_of_not_fits hfit

theorem branchRepCheck_refused_of_start (hreps : f.repIdx + 1 < q.repetitions)
    (hfit : fits s.cfg (f.t + q.ticksBetween) = false) :
    branchRepCheck tx f q s = .refused .counterOverflow := by
  rw [branchRepCheck, if_neg hreps.not_ge]
  exact requireFits_eq_refused_of_rest (requireFits_eq_refused_of_not_fits hfit)

/-- The repetition check with a repetition to follow. -/
theorem branchRepCheck_keepsTick_of_next (hreps : f.repIdx + 1 < q.repetitions) :
    KeepsTick s f (branchRepCheck tx f q s) := by
  cases hrep : fits s.cfg (f.repIdx + 1) with
  | false => exact .inl (branchRepCheck_refused hrep)
  | true =>
    cases hstart : fits s.cfg (f.t + q.ticksBetween) with
    | false => exact .inl (branchRepCheck_refused_of_start hreps hstart)
    | true =>
      have hx := branchRepCheck_eq_next (tx := tx).mpr ⟨hrep, .inr ⟨hreps, hstart, rfl⟩⟩
      exact .inr ⟨_, tx, _, hx, rfl, rfl, rfl⟩

/-- The repetition check with the count reached, and room for the token unless it is queued already. -/
theorem branchRepCheck_keepsTick_of_end (hreps : q.repetitions ≤ f.repIdx + 1)
    (hroom : f.terminated = true ∨ s.cq.length < s.cfg.cqDepth) : KeepsTick s f (branchRepCheck tx f q s) := by
  cases hrep : fits s.cfg (f.repIdx + 1) with
  | false => exact .inl (branchRepCheck_refused hrep)
  | true =>
    obtain ⟨u, g, hx, hcfg, hg, ht⟩ := terminate_fixed_answers
      (s := (s.setOut false).setGen (.fixed tx { f with repIdx := f.repIdx + 1 })) rfl hroom
    exact .inr ⟨u, tx, g, branchRepCheck_eq_next.mpr ⟨hrep, .inl ⟨hreps, hx⟩⟩, hcfg, hg, ht⟩

end

/-! ### Refusals of `BEGIN`, `REQ` and `REQI` -/

theorem beginWith_refused {name : String} {q : PulsePayload} {onFault onOk : State → Run State}
    (hadm : admittedIs s tx = true) (hidle : generatorIdle s = true)
    (hd : readDescriptor s tx = some ⟨name, .pulse q⟩) (hwf : q.wellFormed = true)
    (hfit : fits s.cfg (s.cfg.syncCycles + s.cfg.waitCycles) = false) :
    beginWith tx true s onFault onOk = .refused .counterOverflow := by
  have hok : descriptorOk ⟨name, .pulse q⟩ = true := hwf
  have hload : loadGenerator tx .pulse s = .refused .counterOverflow := requireFits_eq_refused_of_not_fits hfit
  rw [beginWith, if_pos hadm, if_pos hidle, withGoodDescriptor, hd]
  simp only [hok, if_true]
  rw [Descriptor.variant, hload, andThen_refused]

theorem request_refused {name : String} {q : PulsePayload} (hfree : s.ant.busy = false)
    (hidle : generatorIdle s = true) (hd : readDescriptor s tx = some ⟨name, .pulse q⟩) (hwf : q.wellFormed = true)
    (hfit : fits s.cfg (s.cfg.syncCycles + s.cfg.waitCycles) = false) :
    request tx true s = .refused .counterOverflow := by
  rw [request, if_neg (by simp [hfree])]
  exact beginWith_refused (admittedIs_iff.mpr ⟨rfl, rfl⟩) hidle hd hwf hfit

/-- Settles O52: the step keeps the counters below the width, and each addition of R54 is refused by the test that
stands in front of it or, where an earlier test of the branch fails, by that one. -/
theorem countersStayWithinTheirWidth : Obligations.CountersStayWithinTheirWidth := by
  refine ⟨fun s t h hx => h.step hx, fun s w hw => ?_⟩
  refine ⟨fun tx p hg hon hhigh hv => ?_, fun tx p name q hg hon hlow hsync hnext hd => ?_,
    fun tx f hg hon hhold hv => ?_, fun tx f name q hg hon hnext hd => ?_,
    fun tx name q hg hbase hfixed hd hwf hv => ?_⟩
  · -- `BFALL`
    exact execBfall_refused hg hon hhigh (fits_eq_false hw hv)
  · -- `BRISE`
    have hstage := riseStage_of_started hsync hnext hd
    refine ⟨fun b hbit hb hv => ?_, fun hbit hv => ?_, fun hbit hreps hv => ?_⟩
    · have hcode : codeBit q p.bitIdx = some b := by rw [codeBit, if_pos hbit, hb]
      rw [if_pos hbit, stageCode_refused hcode (hv.imp (fits_eq_false hw) (fits_eq_false hw))] at hstage
      exact execBrise_refused hg hon hlow hstage
    · rw [if_neg hbit.not_gt, stageRepeatCheck, requireFits_eq_refused_of_not_fits (fits_eq_false hw hv)] at hstage
      exact execBrise_refused hg hon hlow hstage
    · have hfit : repStartFits s.cfg q.L (p.repsSent + 1) = false :=
        (congrArg (_ && ·) (fits_eq_false hw hv)).trans (Bool.and_false _)
      rw [if_neg hbit.not_gt, stageRepeatCheck_refused hreps hfit] at hstage
      exact execBrise_refused hg hon hlow hstage
  · -- `FTICK`, branch hold
    have hbranch : tickBranch tx f s = .next (s.setOut false) := if_pos hhold
    change execFtick s = _
    rw [execFtick_eq hg hon]
    have hkeeps : KeepsTick s f (tickBranch tx f s) := .inr ⟨_, tx, f, hbranch, rfl, hg, rfl⟩
    exact hkeeps.refused (fits_eq_false hw hv)
  · -- `FTICK`, emit and repetition check
    have htick : exec .ftick s = andThen (tickBranch tx f s) advanceTick := execFtick_eq hg hon
    rw [htick, tickBranch_of_started hnext hd]
    refine ⟨fun hlen (hbit : f.bitIdx < bitCount q) hv => ?_, fun (hbit : f.bitIdx = bitCount q) hv => ?_,
      fun (hbit : f.bitIdx = bitCount q) hreps hv => ?_, fun (hbit : f.bitIdx = bitCount q) hreps hroom hv => ?_⟩
    · obtain ⟨l, hl⟩ := dataBit_of_lt hlen hbit
      rw [if_neg (Nat.ne_of_lt hbit)]
      obtain hv | hv := hv
      · rw [branchEmit_refused hl (fits_eq_false hw hv), andThen_refused]
      · exact (branchEmit_keepsTick hl).refused (fits_eq_false hw hv)
    · rw [if_pos hbit, branchRepCheck_refused (fits_eq_false hw hv), andThen_refused]
    · rw [if_pos hbit]
      obtain hv | hv := hv
      · rw [branchRepCheck_refused_of_start hreps (fits_eq_false hw hv), andThen_refused]
      · exact (branchRepCheck_keepsTick_of_next hreps).refused (fits_eq_false hw hv)
    · rw [if_pos hbit]
      exact (branchRepCheck_keepsTick_of_end hreps hroom).refused (fits_eq_false hw hv)
  · -- `BEGIN`, `REQ`, `REQI`
    have hidle : generatorIdle s = true := generatorIdle_iff.mpr ⟨hg, hbase, hfixed⟩
    have hfit := fits_eq_false hw hv
    refine ⟨fun hbusy hactive => ?_, fun hfree => ?_⟩
    · change execBegin tx true s = _
      exact beginWith_refused (admittedIs_iff.mpr ⟨hbusy, hactive⟩) hidle hd hwf hfit
    · have hreq := request_refused hfree hidle hd hwf hfit
      refine ⟨hreq, fun n hn => ?_⟩
      change execReqi n true s = _
      rw [execReqi, hn]
      exact hreq

end Sys2Proof.Safety
end

section
/-! Descriptor storage (20_memory.md R64, R69, R78): the caller writes it, by an input of its own, and no operation
does. -/

namespace Sys2Proof.Machine

section
variable {s : State} {tx : TxRef} {d : Option Descriptor} {rest : List Input}

theorem borrowed_iff : borrowed s tx = true ↔ s.ant.active = some tx ∨ s.gen.tx = some tx := by
  simp [borrowed]

theorem step_of_descriptor (hin : s.inputs = .descriptor tx d :: rest) :
    step s = writeDescriptor tx d { s with inputs := rest } := by
  simp only [step, hin]

theorem writeDescriptor_of_changes_borrowed (hheld : borrowed s tx = true) (hchange : readDescriptor s tx ≠ d) :
    writeDescriptor tx d s = .refused .descriptorMutated :=
  if_pos (Bool.and_eq_true_iff.mpr ⟨hheld, decide_eq_true hchange⟩)

end

/-- Settles O8: a step with the caller's write is `writeDescriptor`, whose test is the borrowing of R64 and whose
effect is `Memory.write`. -/
theorem borrowedDescriptorCannotChange : Obligations.BorrowedDescriptorCannotChange := by
  intro s tx d rest hin
  rw [step_of_descriptor hin]
  refine ⟨fun hheld hchange => ?_, fun hactive hgen => ?_⟩
  · exact writeDescriptor_of_changes_borrowed (borrowed_iff.mpr hheld) hchange
  · have hfree : ¬ borrowed { s with inputs := rest } tx = true := fun h => (borrowed_iff.mp h).elim hactive hgen
    exact ⟨_, writeDescriptor_eq_next.mpr ⟨fun h => absurd h hfree, rfl⟩, rfl,
      Memory.read_write_same s.store tx d, fun a ha => Memory.read_write_other s.store d ha⟩

/-- Settles O53: storage is not among what an operation can write. -/
theorem noOperationWritesDescriptorStorage : Obligations.NoOperationWritesDescriptorStorage := by
  intro i s t h
  obtain ⟨busy, active, out, gen, tmr, cq, events, reply, rfl⟩ := exec_writes h
  exact ⟨rfl, fun _ => rfl⟩

end Sys2Proof.Machine
end

section
/-! The words of the opcode map (30_encoding.md R93 to R97): encoder and decoder undo each other, and exactly the words
outside the map are reserved. -/

namespace Sys2Proof.Machine

/-! ### What each class's function numbers name -/

section
variable {a : Operands} {i : Instr} {fn : Nat}

theorem toNat_encodeWord_of_decodeTask (h : decodeTask fn a = some i) : (encodeWord i).toNat = fn := by
  unfold decodeTask at h
  split at h <;> cases h <;> rfl

theorem toNat_encodeWord_of_decodeEvent (h : decodeEvent fn = some i) : (encodeWord i).toNat = 64 + fn := by
  unfold decodeEvent at h
  split at h <;> cases h <;> rfl

theorem toNat_encodeWord_of_decodePrimitive (h : decodePrimitive fn a = some i) : (encodeWord i).toNat = 128 + fn := by
  unfold decodePrimitive at h
  split at h <;> cases h <;> rfl

theorem opClassOf_of_decodePrimitive (h : decodePrimitive fn a = some i) : opClassOf i = .primitive := by
  unfold decodePrimitive at h
  split at h <;> cases h <;> rfl

theorem decodeTask_eq_none_iff : decodeTask fn a = none ↔ 7 ≤ fn := by
  unfold decodeTask
  split <;> simp only [imp_false, eq_self, reduceCtorEq, true_iff, false_iff] at * <;> omega

theorem decodeEvent_eq_none_iff : decodeEvent fn = none ↔ 4 ≤ fn := by
  unfold decodeEvent
  split <;> simp only [imp_false, eq_self, reduceCtorEq, true_iff, false_iff] at * <;> omega

theorem decodePrimitive_eq_none_iff : decodePrimitive fn a = none ↔ 5 ≤ fn := by
  unfold decodePrimitive
  split <;> simp only [imp_false, eq_self, reduceCtorEq, true_iff, false_iff] at * <;> omega

end

/-! ### The word as a whole -/

section
variable {w : OpWord} {a : Operands} {i : Instr} {outside : Bool}

theorem decodeWord_encode (i : Instr) : decodeWord (encode i).1 (encode i).2 = some i := by
  cases i with
  | setout l => cases l <;> rfl
  | _ =>
    simp only [encode, encodeWord]
    rfl

/-- A word is its class times 64 and its function number (30_encoding.md R93). -/
theorem encodeWord_of_decodeWord (h : decodeWord w a = some i) : encodeWord i = w := by
  apply BitVec.eq_of_toNat_eq
  unfold decodeWord opCls opFn at h
  split at h
  case h_1 hcls =>
    have hfn := toNat_encodeWord_of_decodeTask h
    omega
  case h_2 hcls =>
    have hfn := toNat_encodeWord_of_decodeEvent h
    omega
  case h_3 hcls =>
    have hfn := toNat_encodeWord_of_decodePrimitive h
    omega
  case h_4 => cases h

theorem decodeWord_eq_none_iff :
    decodeWord w a = none ↔
      (0x07 ≤ w.toNat ∧ w.toNat ≤ 0x3F) ∨ (0x44 ≤ w.toNat ∧ w.toNat ≤ 0x7F) ∨ 0x85 ≤ w.toNat := by
  have hw : w.toNat < 256 := w.isLt
  unfold decodeWord opCls opFn
  split
  case h_1 hcls =>
    rw [decodeTask_eq_none_iff]
    omega
  case h_2 hcls =>
    rw [decodeEvent_eq_none_iff]
    omega
  case h_3 hcls =>
    rw [decodePrimitive_eq_none_iff]
    omega
  case h_4 htask hevent hprimitive =>
    simp only [imp_false] at htask hevent hprimitive
    simp only [true_iff]
    omega

/-- The five words of class `10` (30_encoding.md R95). -/
theorem decodeWord_primitive (a : Operands) (hlow : 0x80 ≤ w.toNat) (hhigh : w.toNat ≤ 0x84) :
    ∃ i, decodeWord w a = some i ∧ opClassOf i = .primitive := by
  have hcls : opCls w = 2 := by
    unfold opCls
    omega
  have hword : decodeWord w a = decodePrimitive (opFn w) a := by
    unfold decodeWord
    simp only [hcls]
  have hnamed : decodePrimitive (opFn w) a ≠ none := by
    rw [Ne, decodePrimitive_eq_none_iff, opFn]
    omega
  obtain ⟨i, hi⟩ := Option.ne_none_iff_exists'.mp hnamed
  exact ⟨i, hword.trans hi, opClassOf_of_decodePrimitive hi⟩

/-! ### The decoder: the three answers (30_encoding.md R94, R97) -/

theorem decode_eq_reservedOp_iff : decode outside w a = .error .reservedOp ↔ decodeWord w a = none := by
  unfold decode
  split
  case h_1 h => simp [h]
  case h_2 h => split <;> simp [h]

theorem decode_eq_ok_iff :
    decode outside w a = .ok i ↔ decodeWord w a = some i ∧ (outside = true → opClassOf i ≠ .primitive) := by
  unfold decode
  split
  case h_1 h => simp [h]
  case h_2 j h =>
    simp only [h, Option.some.injEq]
    split
    case isTrue hrefused =>
      obtain ⟨houtside, hclass⟩ := Bool.and_eq_true_iff.mp hrefused
      simp only [reduceCtorEq, false_iff, not_and]
      rintro rfl hallowed
      exact hallowed houtside (by simpa using hclass)
    case isFalse hallowed =>
      simp only [Except.ok.injEq]
      refine ⟨?_, And.left⟩
      rintro rfl
      exact ⟨rfl, by simpa using hallowed⟩

theorem decode_eq_internalOnly (h : decodeWord w a = some i) (hclass : opClassOf i = .primitive) :
    decode true w a = .error .internalOnly := by
  simp [decode, h, hclass]

theorem issue_of_decode_error {o : Origin} {s : State} {e : DecodeError} (hlegal : s.cfg.legal = true)
    (h : decode (originOutside o) w a = .error e) : issue o w a s = .error (refusalOf e) := by
  simp [issue, hlegal, h]

end

/-- Settles O1: the decoder's answer `.ok i` says which operation the word names, and that word is `i`'s. -/
theorem encodeAndDecodeAgree : Obligations.EncodeAndDecodeAgree := by
  refine ⟨fun i => ?_, fun i hclass => ?_, fun outside w a i h => ?_⟩
  · exact decode_eq_ok_iff.mpr ⟨decodeWord_encode i, nofun⟩
  · exact decode_eq_ok_iff.mpr ⟨decodeWord_encode i, fun _ => hclass⟩
  · obtain ⟨hword, hallowed⟩ := decode_eq_ok_iff.mp h
    obtain rfl := encodeWord_of_decodeWord hword
    exact ⟨rfl, decode_eq_ok_iff.mpr ⟨decodeWord_encode i, hallowed⟩⟩

/-- Settles O2: a step hands on the decoder's error as its refusal. -/
theorem reservedAndInternalWordsAreRefused : Obligations.ReservedAndInternalWordsAreRefused := by
  refine ⟨fun outside w a => decode_eq_reservedOp_iff.trans decodeWord_eq_none_iff,
    fun s o w a rest hin hlegal => ⟨fun hdec => ?_, fun ho hlow hhigh => ?_⟩⟩
  · exact step_of_issue_error hin (issue_of_decode_error hlegal hdec)
  · obtain ⟨i, hi, hclass⟩ := decodeWord_primitive a hlow hhigh
    have hdec : decode (originOutside o) w a = .error .internalOnly := by
      rw [ho]
      exact decode_eq_internalOnly hi hclass
    exact step_of_issue_error hin (issue_of_decode_error hlegal hdec)

/-- Settles O3: each word is decoded by computation. -/
theorem writtenOutWordsDecode : Obligations.WrittenOutWordsDecode :=
  ⟨rfl, rfl, rfl, rfl, rfl, rfl⟩

end Sys2Proof.Machine
end

section
/-! `REQ` in terms of `ACQ`, `BEGIN` and `REL` (30_encoding.md R102; 40_antenna.md R113): the reply that stands between
two of them changes nothing of what the next one does. -/

namespace Sys2Proof.Machine

variable {s t : State} {tx : TxRef} {hw : Bool}

/-- `ACQ` turns away a busy antenna's caller and takes a free one (40_antenna.md R110). -/
theorem execAcq_eq_next :
    execAcq tx s = .next t ↔
      (s.ant.busy = true ∧ t = s.setReply .rejectedBusy) ∨
      (s.ant.busy = false ∧ t = (takeAntenna tx s).setReply .admitted) := by
  unfold execAcq
  split <;> simp_all [next_eq_next, -Host.Outcome.next.injEq]

theorem andThen_requireFits (c : Params) (v : Nat) (k : Run State) (f : State → Run State) :
    andThen (requireFits c v k) f = requireFits c v (andThen k f) := by
  unfold requireFits
  split <;> rfl

theorem andThen_assoc {α β γ : Type} (x : Run α) (f : α → Run β) (g : β → Run γ) :
    andThen (andThen x f) g = andThen x fun a => andThen (f a) g := by
  cases x <;> rfl

/-- What the generator is loaded with does not depend on the reply. -/
theorem loadGenerator_setReply (v : Variant) (s : State) (r : Reply) :
    loadGenerator tx v (s.setReply r) = andThen (loadGenerator tx v s) fun u => .next (u.setReply r) := by
  cases v with
  | fixed => rfl
  | pulse =>
    rw [loadGenerator, loadGenerator, loadPulse, loadPulse, andThen_requireFits]
    rfl

/-- Neither do the tests of `BEGIN` (41_generator_interface.md R130). -/
theorem beginWith_setReply (s : State) (r : Reply) (onFault onOk : State → Run State) :
    beginWith tx hw (s.setReply r) onFault onOk =
      beginWith tx hw s (fun u => onFault (u.setReply r)) (fun u => onOk (u.setReply r)) := by
  simp only [beginWith, admittedIs, generatorIdle, withGoodDescriptor, readDescriptor, loadGenerator_setReply,
    andThen_assoc, andThen_next, State.setReply_ant, State.setReply_gen, State.setReply_tmr, State.setReply_store]
  rfl

/-- Where what follows is not refused, the refusal is one of the tests of `BEGIN`, whatever follows. -/
theorem beginWith_refused_whatever_follows {r : Refusal} {onFault onOk onFault' onOk' : State → Run State}
    (hfault : ∀ u, onFault u ≠ .refused r) (hok : ∀ u, onOk u ≠ .refused r)
    (h : beginWith tx hw s onFault onOk = .refused r) : beginWith tx hw s onFault' onOk' = .refused r := by
  unfold beginWith withGoodDescriptor at h ⊢
  split at h
  case isFalse hadm => rwa [if_neg hadm]
  case isTrue hadm =>
  rw [if_pos hadm]
  split at h
  case isFalse hbusy => rwa [if_neg hbusy]
  case isTrue hidle =>
  rw [if_pos hidle]
  split at h
  case h_2 => exact h
  case h_1 d _ =>
  split at h
  case isFalse hbad => rwa [if_neg hbad]
  case isTrue hgood =>
  rw [if_pos hgood]
  cases hw with
  | false => exact absurd h (hfault s)
  | true =>
    change andThen (loadGenerator tx d.variant s) onOk' = .refused r
    change andThen (loadGenerator tx d.variant s) onOk = .refused r at h
    cases hload : loadGenerator tx d.variant s with
    | next u =>
      rw [hload] at h
      exact absurd h (hok u)
    | fault e => simp [hload] at h
    | refused e => simpa [hload] using h

/-- `BEGIN` after an `ACQ` that admits overwrites its reply and reads the rest (30_encoding.md R102). -/
theorem execBegin_of_admitted :
    execBegin tx hw ((takeAntenna tx s).setReply .admitted) =
      beginWith tx hw (takeAntenna tx s)
        (fun u => .next (u.setReply .errHardwareFault)) (fun u => .next (u.setReply .ok)) :=
  beginWith_setReply _ _ _ _

/-- Settles O15: an admitted `REQ` runs `BEGIN` on the antenna `ACQ` has taken, and differs from it in what follows. -/
theorem requestIsAcquireBeginRelease : Obligations.RequestIsAcquireBeginRelease := by
  intro s a b tx hw hacq
  obtain ⟨hbusy, rfl⟩ | ⟨hfree, rfl⟩ := execAcq_eq_next.mp hacq
  · refine ⟨fun _ => request_eq_next.mpr (.inl ⟨hbusy, rfl⟩), nofun, nofun, nofun⟩
  · have hreq : exec (.req tx hw) s = beginWith tx hw (takeAntenna tx s) _ _ := if_neg (by simp [hfree])
    have hbegin : exec (.begin tx hw) ((takeAntenna tx s).setReply .admitted) = _ := execBegin_of_admitted
    rw [hreq, hbegin]
    refine ⟨nofun, fun _ hb hok => ?_, fun _ hb hfault => ?_, fun r _ hr => ?_⟩
    · obtain ⟨hadm, hidle, d, hd, hgood, ⟨-, hu⟩ | ⟨hw, u, hload, hu⟩⟩ := beginWith_eq_next.mp hb
      · obtain rfl := next_eq_next.mp hu
        cases hok
      · obtain rfl := next_eq_next.mp hu
        exact beginWith_eq_next.mpr ⟨hadm, hidle, d, hd, hgood, .inr ⟨hw, u, hload, rfl⟩⟩
    · obtain ⟨hadm, hidle, d, hd, hgood, ⟨hw, hu⟩ | ⟨-, u, -, hu⟩⟩ := beginWith_eq_next.mp hb
      · obtain rfl := next_eq_next.mp hu
        refine ⟨_, execRel_eq_next.mpr (.inr ⟨rfl, hidle, rfl⟩), ?_⟩
        refine beginWith_eq_next.mpr ⟨hadm, hidle, d, hd, hgood, .inl ⟨hw, ?_⟩⟩
        rw [release_eq_next.mpr (.inr ⟨rfl, hidle, rfl⟩)]
        rfl
      · obtain rfl := next_eq_next.mp hu
        cases hfault
    · exact beginWith_refused_whatever_follows (by simp) (by simp) hr

end Sys2Proof.Machine
end

section
/-! Runs of interrupt events: what no event changes, how a run is put together, and what unbounded counters and the
invariant leave to refuse. -/

namespace Sys2Proof.Safety

open Sys2Proof.Machine

variable {s t u : State} {tx : TxRef}

/-! ### What no event changes -/

/-- The registers and parameters no interrupt event writes (44_dispatcher.md R201; 10_state.md R48). -/
structure SameSurroundings (s t : State) : Prop where
  ant : t.ant = s.ant
  log : t.log = s.log
  cfg : t.cfg = s.cfg
  store : t.store = s.store

theorem SameSurroundings.refl (s : State) : SameSurroundings s s := ⟨rfl, rfl, rfl, rfl⟩

theorem SameSurroundings.trans (h : SameSurroundings s t) (h' : SameSurroundings t u) : SameSurroundings s u :=
  ⟨h'.ant.trans h.ant, h'.log.trans h.log, h'.cfg.trans h.cfg, h'.store.trans h.store⟩

theorem SameSurroundings.read (h : SameSurroundings s t) (tx : TxRef) : readDescriptor t tx = readDescriptor s tx := by
  rw [readDescriptor, readDescriptor, h.store]

theorem sameSurroundings_of_event {i : Instr} (hclass : opClassOf i = .event) (hx : exec i s = .next t) :
    SameSurroundings s t := by
  obtain ⟨out, gen, level, cq, rfl, -⟩ := event_writes hclass hx
  exact ⟨rfl, rfl, rfl, rfl⟩

/-! ### Runs -/

theorem runOps_append (is js : List Instr) (s : State) :
    runOps (is ++ js) s = andThen (runOps is s) (runOps js) := by
  induction is generalizing s with
  | nil => rfl
  | cons i is ih =>
    change andThen (exec i s) (runOps (is ++ js)) = andThen (andThen (exec i s) (runOps is)) (runOps js)
    cases exec i s with
    | next t => exact ih t
    | fault r => rfl
    | refused r => rfl

theorem runOps_cons {i : Instr} (hx : exec i s = .next t) (is : List Instr) : runOps (i :: is) s = runOps is t := by
  rw [runOps, hx, andThen_next]

/-! ### Unbounded counters -/

theorem fits_of_unbounded {c : Params} (hc : c.ctrW = none) (v : Nat) : fits c v = true := by
  rw [fits, hc]

/-- A generator that has not terminated finds room for its token (44_dispatcher.md R202). -/
theorem Inv.room (h : Inv s) {terminated : Bool} (hcq : s.cq = tokensOf tx terminated) :
    terminated = true ∨ s.cq.length < s.cfg.cqDepth := by
  obtain ⟨-, hdepth, -⟩ := legal_iff.mp h.legal
  cases terminated with
  | true => exact .inl rfl
  | false =>
    rw [hcq]
    exact .inr hdepth

end Sys2Proof.Safety
end

section
/-! A fixed-code transmission from `BEGIN` on (30_encoding.md R88 to R91; 43_fixed_code.md R180 to R186). -/

namespace Sys2Proof.Safety

open Sys2Proof.Machine

/-! ### Data bits -/

/-- Settles O33: the byte that holds bit `i` lies inside the buffer. -/
theorem dataBitsComeMostSignificantFirst : Obligations.DataBitsComeMostSignificantFirst := by
  intro q i hwf
  obtain ⟨-, hlen, -⟩ := fixed_wellFormed_iff.mp hwf
  refine ⟨fun hi => ?_, dataBit_of_bitCount_le⟩
  have hbyte : i / 8 < q.codeLen := by omega
  have hread : q.data[i / 8]? = some q.data[i / 8] := List.getElem?_eq_getElem (hlen ▸ hbyte)
  exact ⟨_, hread, by rw [dataBit, dataByte, if_pos hbyte, hread, Option.map_some]⟩

/-! ### Ticks of a fixed-code generator -/

section
variable {s : State} {tx : TxRef} {f : FixedRegs} {q : FixedPayload}

/-- A generator that has not terminated is not past the tick of R186. -/
theorem FixedOk.t_le_fixedEnd (h : FixedOk s q f) (hterm : f.terminated = false) : f.t ≤ fixedEnd q := by
  obtain ⟨hreps, -⟩ := h.running_reps hterm
  have hlast : fixedPeriod q * f.repIdx ≤ fixedPeriod q * (q.repetitions - 1) :=
    Nat.mul_le_mul_left _ (Nat.le_sub_one_of_lt hreps)
  have hbits := h.bitIdx_le
  unfold fixedEnd
  rcases Nat.eq_zero_or_pos f.bitIdx with hbit | hbit
  · have hpos := (h.running_gap hterm hbit).1
    omega
  · have hpos := h.running_bits hterm hbit
    omega

theorem FixedOk.terminated_iff (h : FixedOk s q f) : f.terminated = true ↔ fixedEnd q < f.t := by
  refine ⟨h.fixedEnd_lt_t, fun hlate => ?_⟩
  by_contra hrun
  exact hlate.not_ge (h.t_le_fixedEnd (by simpa using hrun))

/-- With unbounded counters every branch of a tick can be taken (43_fixed_code.md R180). -/
theorem tickBranch_answers (h : Inv s) (hc : s.cfg.ctrW = none) (hg : s.gen = .fixed tx f) :
    ∃ u g, tickBranch tx f s = .next u ∧ u.cfg = s.cfg ∧ u.gen = .fixed tx g ∧ g.t = f.t := by
  obtain ⟨-, -, -, -, -, hcq, name, q, hd, hok⟩ := (genOk_fixed_iff hg).mp h.gen
  have hfits := fits_of_unbounded hc
  rcases lt_or_ge f.t f.nextRepStart with hnext | hnext
  · exact ⟨s.setOut false, f, tickBranch_eq_next.mpr (.inl ⟨hnext, rfl⟩), rfl, hg, rfl⟩
  rw [tickBranch_of_started hnext hd]
  split
  case isTrue hbit =>
    rcases lt_or_ge (f.repIdx + 1) q.repetitions with hreps | hreps
    · exact ⟨_, _, branchRepCheck_eq_next.mpr ⟨hfits _, .inr ⟨hreps, hfits _, rfl⟩⟩, rfl, rfl, rfl⟩
    · obtain ⟨u, g, hterm, hu⟩ := terminate_fixed_answers
        (s := (s.setOut false).setGen (.fixed tx { f with repIdx := f.repIdx + 1 })) rfl (h.room hcq)
      exact ⟨u, g, branchRepCheck_eq_next.mpr ⟨hfits _, .inl ⟨hreps, hterm⟩⟩, hu⟩
  case isFalse hbit =>
    obtain ⟨-, hlen, -⟩ := fixed_wellFormed_iff.mp hok.wellFormed
    obtain ⟨l, hl⟩ := dataBit_of_lt hlen (lt_of_le_of_ne hok.bitIdx_le hbit)
    exact ⟨_, _, branchEmit_eq_next.mpr ⟨l, hl, hfits _, rfl⟩, rfl, rfl, rfl⟩

/-- A tick counts one (43_fixed_code.md R184). -/
theorem ftick_answers (h : Inv s) (hc : s.cfg.ctrW = none) (hg : s.gen = .fixed tx f) :
    ∃ t g, exec .ftick s = .next t ∧ t.gen = .fixed tx g ∧ g.t = f.t + 1 := by
  obtain ⟨-, -, -, -, hon, -⟩ := (genOk_fixed_iff hg).mp h.gen
  obtain ⟨u, g, hu, hcfg, hug, ht⟩ := tickBranch_answers h hc hg
  have hfit : fits u.cfg (g.t + 1) = true := by rw [hcfg]; exact fits_of_unbounded hc _
  exact ⟨_, _, execFtick_eq_next.mpr ⟨hon, tx, f, u, hg, hu, tx, g, hug, hfit, rfl⟩, rfl, congrArg (· + 1) ht⟩

/-- Any number of ticks in a row. -/
theorem fticks_answer (h : Inv s) (hc : s.cfg.ctrW = none) (hg : s.gen = .fixed tx f) (n : Nat) :
    ∃ t g, runOps (List.replicate n .ftick) s = .next t ∧ Inv t ∧ t.gen = .fixed tx g ∧ g.t = f.t + n ∧
      SameSurroundings s t := by
  induction n generalizing s f with
  | zero => exact ⟨s, f, rfl, h, hg, rfl, .refl s⟩
  | succ n ih =>
    obtain ⟨u, f', hx, hug, ht⟩ := ftick_answers h hc hg
    have hsame := sameSurroundings_of_event rfl hx
    obtain ⟨t, g, hrun, hinv, htg, htn, hsame'⟩ := ih (h.event rfl hx) (hsame.cfg ▸ hc) hug
    exact ⟨t, g, (runOps_cons hx _).trans hrun, hinv, htg, by omega, hsame.trans hsame'⟩

end

/-- Settles O59: the invariant says at every tick what the line, the flag and the queue are. -/
theorem fixedTransmissionFollowsItsFrame : Obligations.FixedTransmissionFollowsItsFrame := by
  intro s tx name q h hc hg hd m
  obtain ⟨t, f, hrun, hinv, htg, ht, hsame⟩ := fticks_answer h hc hg (m + 1)
  replace ht : f.t = m + 1 := ht.trans (Nat.zero_add _)
  obtain ⟨-, -, -, -, -, hcq, name', q', hd', hok⟩ := (genOk_fixed_iff htg).mp hinv.gen
  rw [hsame.read, hd] at hd'
  obtain ⟨-, rfl⟩ : name = name' ∧ q = q' := by simpa using hd'
  have hterm : f.terminated = true ↔ fixedEnd q ≤ m := by rw [hok.terminated_iff, ht, Nat.lt_succ_iff]
  have hlevel := hok.level
  rw [ht, if_neg (Nat.succ_ne_zero m), Nat.add_sub_cancel] at hlevel
  refine ⟨t, f, hrun, htg, hlevel, ht, hterm, ?_, hsame.log, hsame.ant⟩
  rw [hcq, tokensOf]
  simp only [hterm]

end Sys2Proof.Safety
end

section
/-! The symbols of a pulse-code frame (30_encoding.md R80 to R86, R91): what the table gives each cycle, and which of
them the clause `PulseOk` of the invariant puts at a rising edge. -/

namespace Sys2Proof.Safety

open Sys2Proof.Machine

/-! ### The frame table -/

section
variable {c : Params} {q : PulsePayload} {k n r b : Nat}

theorem pulseSymbol_sync (hn : n < c.syncCycles) : pulseSymbol c q n = .sync :=
  if_pos hn

/-- Slot `r` of repetition `k` (30_encoding.md R80). -/
theorem pulseSymbol_bit (hk : k < q.R) (hr : r < pulsePeriod c q) (hb : codeBit q r = some b) :
    pulseSymbol c q (codeStart c + pulsePeriod c q * k + r) = .bit b := by
  have hsync : ¬ codeStart c + pulsePeriod c q * k + r < c.syncCycles := by
    unfold codeStart
    omega
  have hwait : ¬ codeStart c + pulsePeriod c q * k + r < codeStart c := by omega
  have hpast : codeStart c + pulsePeriod c q * k + r - codeStart c = pulsePeriod c q * k + r := by omega
  have hdiv : (pulsePeriod c q * k + r) / pulsePeriod c q = k := by
    rw [Nat.mul_add_div (Nat.zero_lt_of_lt hr), Nat.div_eq_of_lt hr, Nat.add_zero]
  rw [pulseSymbol, if_neg hsync, if_neg hwait, hpast, hdiv, if_pos hk, Nat.mul_add_mod, Nat.mod_eq_of_lt hr, hb]

/-- A cycle past the preamble that carries no code bit is low (30_encoding.md R80, R91). -/
theorem pulseSymbol_low (hsync : c.syncCycles ≤ n)
    (hcode : codeStart c ≤ n → (n - codeStart c) / pulsePeriod c q < q.R →
      q.L ≤ (n - codeStart c) % pulsePeriod c q) : pulseSymbol c q n = .low := by
  rw [pulseSymbol, if_neg hsync.not_gt]
  split
  case isTrue => rfl
  case isFalse hstart =>
    split
    case isFalse => rfl
    case isTrue hrep =>
      have hnone : codeBit q ((n - codeStart c) % pulsePeriod c q) = none :=
        if_neg (hcode (not_lt.mp hstart) hrep).not_gt
      rw [hnone]

theorem pulseSymbol_wait (hsync : c.syncCycles ≤ n) (hn : n < codeStart c) : pulseSymbol c q n = .low :=
  pulseSymbol_low hsync fun hstart => absurd hn hstart.not_gt

/-- The gap after repetition `k` (30_encoding.md R80). -/
theorem pulseSymbol_gap (hstart : codeStart c + pulsePeriod c q * k + q.L ≤ n)
    (hend : n < codeStart c + pulsePeriod c q * (k + 1)) : pulseSymbol c q n = .low := by
  rw [Nat.mul_succ] at hend
  obtain ⟨r, rfl⟩ := Nat.exists_eq_add_of_le (Nat.le_of_add_right_le hstart)
  have hsync : c.syncCycles ≤ codeStart c := Nat.le_add_right _ _
  refine pulseSymbol_low (by omega) fun _ _ => ?_
  have hpast : codeStart c + pulsePeriod c q * k + r - codeStart c = pulsePeriod c q * k + r := by omega
  rw [hpast, Nat.mul_add_mod, Nat.mod_eq_of_lt (by omega)]
  omega

/-- After the frame (30_encoding.md R91). -/
theorem pulseSymbol_of_pulseEnd_le (hend : pulseEnd c q ≤ n) (hreps : 1 ≤ q.R) : pulseSymbol c q n = .low := by
  by_cases hn : n < codeStart c + pulsePeriod c q * (q.R - 1 + 1)
  · exact pulseSymbol_gap hend hn
  · rw [Nat.sub_add_cancel hreps] at hn
    have hsync : c.syncCycles ≤ codeStart c := Nat.le_add_right _ _
    refine pulseSymbol_low (by omega) fun hstart hrep => ?_
    rw [Nat.div_lt_iff_lt_mul (Nat.zero_lt_of_lt (length_lt_pulsePeriod c q)), Nat.mul_comm] at hrep
    omega

end

/-! ### Positions -/

section
variable {s : State} {q : PulsePayload} {p : PulseRegs}

/-- A generator that has not terminated is not past the cycle of R165. -/
theorem PulseOk.edges_le_pulseEnd (h : PulseOk s q p) (hterm : p.terminated = false) :
    edges s p ≤ pulseEnd s.cfg q := by
  obtain ⟨hreps, -⟩ := h.running_reps hterm
  have hlast : pulsePeriod s.cfg q * p.repsSent ≤ pulsePeriod s.cfg q * (q.R - 1) :=
    Nat.mul_le_mul_left _ (Nat.le_sub_one_of_lt hreps)
  have hbits := h.bitIdx_le
  unfold pulseEnd
  rcases Nat.eq_zero_or_pos p.bitIdx with hbit | hbit
  · have hpos := (h.running_gap hterm hbit).1
    omega
  · have hpos := h.running_bits hterm hbit
    omega

theorem PulseOk.terminated_iff (h : PulseOk s q p) : p.terminated = true ↔ pulseEnd s.cfg q < edges s p := by
  refine ⟨h.pulseEnd_lt_edges, fun hlate => ?_⟩
  by_contra hrun
  exact hlate.not_ge (h.edges_le_pulseEnd (by simpa using hrun))

/-! ### Which symbol a rising edge starts -/

/-- Stage WAIT is the leading wait or a gap (42_pulse_code.md R152). -/
theorem PulseOk.symbol_wait (h : PulseOk s q p) (hlow : s.tmr.baseLevel = false) (hsync : s.cfg.syncCycles ≤ p.c)
    (hnext : p.c < p.nextRepStart) : pulseSymbol s.cfg q p.c = .low := by
  rw [← edges_low (p := p) hlow] at hnext hsync ⊢
  obtain ⟨hterm, hbit⟩ := h.waiting hnext
  have hgap := (h.running_gap hterm hbit).2
  rw [(h.running_reps hterm).2] at hnext
  rcases Nat.eq_zero_or_pos p.repsSent with hrep | hrep
  · rw [hrep, repStart_zero] at hnext
    exact pulseSymbol_wait hsync hnext
  · refine pulseSymbol_gap (hgap hrep).le ?_
    rw [Nat.sub_add_cancel hrep]
    exact hnext.trans_le (repStart_le s.cfg q p.repsSent)

/-- Stage CODE is the slot of the code bit it consumes (42_pulse_code.md R153). -/
theorem PulseOk.symbol_code (h : PulseOk s q p) (hlow : s.tmr.baseLevel = false) (hnext : p.nextRepStart ≤ p.c)
    (hbit : p.bitIdx < q.L) {b : Nat} (hb : codeBit q p.bitIdx = some b) : pulseSymbol s.cfg q p.c = .bit b := by
  rw [← edges_low (p := p) hlow] at hnext ⊢
  have hterm : p.terminated = false := by
    by_contra hterm
    have := (h.ended (by simpa using hterm)).2.1
    omega
  rw [h.edges_of_started hterm hnext]
  exact pulseSymbol_bit (h.running_reps hterm).1 (hbit.trans (length_lt_pulsePeriod s.cfg q)) hb

/-- Stage REPEAT-CHECK is the first cycle after a repetition, or one after the frame (42_pulse_code.md R154, R163). -/
theorem PulseOk.symbol_check (h : PulseOk s q p) (hlow : s.tmr.baseLevel = false) (hnext : p.nextRepStart ≤ p.c)
    (hbit : q.L ≤ p.bitIdx) : pulseSymbol s.cfg q p.c = .low := by
  rw [← edges_low (p := p) hlow] at hnext ⊢
  cases hterm : p.terminated with
  | true =>
    have hreps := (pulse_wellFormed_iff.mp h.wellFormed).2.2.1
    exact pulseSymbol_of_pulseEnd_le (h.pulseEnd_lt_edges hterm).le hreps
  | false =>
    have hpos := h.edges_of_started hterm hnext
    rw [le_antisymm h.bitIdx_le hbit] at hpos
    refine pulseSymbol_gap hpos.ge ?_
    have hperiod := length_lt_pulsePeriod s.cfg q
    rw [Nat.mul_succ]
    omega

end

end Sys2Proof.Safety
end

section
/-! A pulse-code transmission from `BEGIN` on (30_encoding.md R82 to R84, R101; 42_pulse_code.md R150 to R166): a rise
starts its cycle's symbol, the ticks draw it, the fall ends it. -/

namespace Sys2Proof.Safety

open Sys2Proof.Machine

/-! ### The high phase of a symbol -/

/-- Line and oscillator after `j` sub-carrier ticks of a cycle that carries a symbol (30_encoding.md R82 to R84;
42_pulse_code.md R156). -/
structure InSymbol (y : Symbol) (j : Nat) (s : State) (p : PulseRegs) : Prop where
  out : s.out = symbolLevel s.cfg y j
  /-- A running oscillator has used up one tick of the bit's budget for each tick. -/
  running : p.oscRunning = true → ∃ b, y = .bit b ∧ j + p.oscBudget = tickBudget s.cfg b ∧ p.oscLevel = s.out
  /-- With the oscillator stopped the line keeps its level. -/
  stopped : p.oscRunning = false → ∀ k, j ≤ k → symbolLevel s.cfg y k = s.out

section
variable {s t : State} {tx : TxRef} {p : PulseRegs} {q : PulsePayload} {name : String} {y : Symbol} {j b : Nat}

theorem inSymbol_sync (hout : s.out = true) (hosc : p.oscRunning = false) : InSymbol .sync 0 s p :=
  ⟨hout, by simp [hosc], fun _ _ _ => hout.symm⟩

theorem inSymbol_low (hout : s.out = false) (hosc : p.oscRunning = false) : InSymbol .low 0 s p :=
  ⟨hout, by simp [hosc], fun _ _ _ => hout.symm⟩

theorem inSymbol_bit (hout : s.out = false) (hosc : p.oscRunning = true) (hlevel : p.oscLevel = false)
    (hbudget : p.oscBudget = tickBudget s.cfg b) : InSymbol (.bit b) 0 s p :=
  ⟨by simp [hout, symbolLevel], fun _ => ⟨b, rfl, by omega, hlevel.trans hout.symm⟩, by simp [hosc]⟩

/-- A tick of a stopped oscillator changes nothing. -/
theorem InSymbol.tick_stopped (h : InSymbol y j s p) (hosc : p.oscRunning = false) (hcfg : t.cfg = s.cfg)
    (hout : t.out = s.out) : InSymbol y (j + 1) t p where
  out := by rw [hcfg, hout, h.stopped hosc _ (Nat.le_succ j)]
  running := by simp [hosc]
  stopped _ k hk := by rw [hcfg, hout, h.stopped hosc k (Nat.le_of_succ_le hk)]

/-- A tick of a running oscillator flips the line, or lowers it for the rest of the cycle. -/
theorem InSymbol.tick_running (h : InSymbol y j s p) (hosc : p.oscRunning = true) :
    ∃ p', (oscTick tx p s).gen = .pulse tx p' ∧ p'.c = p.c ∧ InSymbol y (j + 1) (oscTick tx p s) p' := by
  obtain ⟨b, rfl, hbudget, hlevel⟩ := h.running hosc
  have hout := h.out
  simp only [symbolLevel] at hout
  unfold oscTick
  split
  case isTrue hzero =>
    have hlow : ∀ k, j + 1 ≤ k → symbolLevel s.cfg (.bit b) k = false := by
      intro k hk
      simp only [symbolLevel, decide_eq_false_iff_not]
      omega
    exact ⟨_, rfl, rfl, (hlow _ le_rfl).symm, nofun, fun _ => hlow⟩
  case isFalse hpos =>
    have hflip : (!p.oscLevel) = symbolLevel s.cfg (.bit b) (j + 1) := by
      rw [hlevel, hout, symbolLevel, ← decide_not, decide_eq_decide]
      omega
    refine ⟨_, rfl, rfl, hflip, fun _ => ⟨b, rfl, ?_, rfl⟩, by simp [hosc]⟩
    change j + 1 + (p.oscBudget - 1) = tickBudget s.cfg b
    omega

end

/-! ### The handlers, one by one -/

/-- A run from `s` has brought the pulse-code generator of `tx` into the low or the high phase of cycle `n`. -/
structure InCycle (s : State) (tx : TxRef) (n : Nat) (level : Level) (t : State) (p : PulseRegs) : Prop where
  inv : Inv t
  gen : t.gen = .pulse tx p
  count : p.c = n
  level : t.tmr.baseLevel = level
  same : SameSurroundings s t

section
variable {s t : State} {tx : TxRef} {p p' : PulseRegs} {q : PulsePayload} {name : String} {y : Symbol} {j m n : Nat}
  {level level' : Level}

theorem InCycle.event (h : InCycle s tx n level t p) {i : Instr} {u : State} (hclass : opClassOf i = .event)
    (hx : exec i t = .next u) (hgen : u.gen = .pulse tx p') (hcount : p'.c = m) (hlevel : u.tmr.baseLevel = level') :
    InCycle s tx m level' u p' :=
  ⟨h.inv.event hclass hx, hgen, hcount, hlevel, h.same.trans (sameSurroundings_of_event hclass hx)⟩

theorem terminate_pulse_answers (hg : s.gen = .pulse tx p) (hcq : s.cq = tokensOf tx p.terminated)
    (hroom : p.terminated = true ∨ s.cq.length < s.cfg.cqDepth) :
    terminate s = .next ((s.setGen (.pulse tx { p with terminated := true })).setCq (tokensOf tx true)) := by
  have hanswers : ∃ t, terminate s = .next t := by
    cases hterm : p.terminated with
    | true => exact ⟨s, terminate_eq_next.mpr (.inl ⟨tx, p, hg, hterm, rfl⟩)⟩
    | false =>
      have hspace := hroom.resolve_left (by simp [hterm])
      exact ⟨_, terminate_eq_next.mpr (.inr (.inr (.inl ⟨tx, p, hg, hterm, hspace, rfl⟩)))⟩
  obtain ⟨t, ht⟩ := hanswers
  rw [ht, terminate_pulse ht hg hcq]

theorem codeBit_of_lt (hwf : q.wellFormed = true) {i : Nat} (hi : i < q.L) : ∃ b, codeBit q i = some b := by
  obtain ⟨-, hlen, -⟩ := pulse_wellFormed_iff.mp hwf
  exact ⟨_, by rw [codeBit, if_pos hi, List.getElem?_eq_getElem (hlen ▸ hi)]⟩

/-- With unbounded counters every stage can be taken, and it starts the symbol of its cycle (42_pulse_code.md R150). -/
theorem riseStage_answers (h : Inv s) (hc : s.cfg.ctrW = none) (hg : s.gen = .pulse tx p)
    (hlow : s.tmr.baseLevel = false) (hd : readDescriptor s tx = some ⟨name, .pulse q⟩) :
    ∃ u p', riseStage tx p s = .next u ∧ u.gen = .pulse tx p' ∧ p'.c = p.c ∧
      InSymbol (pulseSymbol s.cfg q p.c) 0 u p' := by
  obtain ⟨-, -, -, -, hcq, name', q', hd', hok⟩ := (genOk_pulse_iff hg).mp h.gen
  obtain ⟨-, rfl⟩ : name = name' ∧ q = q' := by simpa [hd] using hd'
  obtain ⟨hout, hosc⟩ := hok.low_phase hlow
  have hfits := fits_of_unbounded hc
  rcases lt_or_ge p.c s.cfg.syncCycles with hsync | hsync
  · rw [pulseSymbol_sync hsync]
    exact ⟨_, p, riseStage_eq_next.mpr (.inl ⟨hsync, rfl⟩), hg, rfl, inSymbol_sync rfl hosc⟩
  rcases lt_or_ge p.c p.nextRepStart with hnext | hnext
  · rw [hok.symbol_wait hlow hsync hnext]
    exact ⟨_, p, riseStage_eq_next.mpr (.inr (.inl ⟨hsync, hnext, rfl⟩)), hg, rfl, inSymbol_low rfl hosc⟩
  rw [riseStage_of_started hsync hnext hd]
  split
  case isTrue hbit =>
    obtain ⟨b, hb⟩ := codeBit_of_lt hok.wellFormed hbit
    rw [hok.symbol_code hlow hnext hbit hb]
    exact ⟨_, _, stageCode_eq_next.mpr ⟨b, hb, hfits _, hfits _, rfl⟩, rfl, rfl, inSymbol_bit hout rfl rfl rfl⟩
  case isFalse hbit =>
    rw [hok.symbol_check hlow hnext (not_lt.mp hbit)]
    rcases lt_or_ge (p.repsSent + 1) q.R with hreps | hreps
    · have hstart : repStartFits s.cfg q.L (p.repsSent + 1) = true := by simp [repStartFits, hfits]
      exact ⟨_, _, stageRepeatCheck_eq_next.mpr ⟨hfits _, .inr ⟨hreps, hstart, rfl⟩⟩, rfl, rfl,
        inSymbol_low hout hosc⟩
    · have hterm := terminate_pulse_answers
        (s := (s.setGen (.pulse tx { p with repsSent := p.repsSent + 1 })).setOut false) rfl hcq (h.room hcq)
      exact ⟨_, _, stageRepeatCheck_eq_next.mpr ⟨hfits _, .inl ⟨hreps, hterm⟩⟩, rfl, rfl, inSymbol_low rfl hosc⟩

theorem InCycle.brise (h : InCycle s tx n false t p) (hc : s.cfg.ctrW = none)
    (hd : readDescriptor s tx = some ⟨name, .pulse q⟩) :
    ∃ u p', exec .brise t = .next u ∧ InCycle s tx n true u p' ∧ InSymbol (pulseSymbol s.cfg q n) 0 u p' := by
  obtain ⟨-, -, hon, -⟩ := (genOk_pulse_iff h.gen).mp h.inv.gen
  obtain ⟨u, p', hu, hug, hcount, hsymbol⟩ :=
    riseStage_answers h.inv (h.same.cfg ▸ hc) h.gen h.level ((h.same.read tx).trans hd)
  have hx : exec .brise t = .next _ := execBrise_eq_next.mpr ⟨hon, h.level, tx, p, u, h.gen, hu, rfl⟩
  rw [h.same.cfg, h.count] at hsymbol
  exact ⟨_, p', hx, h.event rfl hx hug (hcount.trans h.count) rfl, hsymbol.out, hsymbol.running, hsymbol.stopped⟩

theorem InCycle.stick (h : InCycle s tx n true t p) (hy : InSymbol y j t p) :
    ∃ u p', exec .stick t = .next u ∧ InCycle s tx n true u p' ∧ InSymbol y (j + 1) u p' := by
  obtain ⟨-, -, hon, -⟩ := (genOk_pulse_iff h.gen).mp h.inv.gen
  have hx : exec .stick t = .next _ := execStick_eq_next.mpr ⟨hon, tx, p, h.gen, rfl⟩
  cases hosc : p.oscRunning with
  | false =>
    rw [hosc] at hx
    exact ⟨_, p, hx, h.event rfl hx h.gen h.count h.level, hy.tick_stopped hosc rfl rfl⟩
  | true =>
    rw [hosc] at hx
    obtain ⟨p', hgen, hcount, hy'⟩ := hy.tick_running (tx := tx) hosc
    obtain ⟨l, g, htick, -⟩ := oscTick_writes h.gen
    have hlevel : (oscTick tx p t).tmr.baseLevel = true := by rw [htick]; exact h.level
    exact ⟨_, p', hx, h.event rfl hx hgen (hcount.trans h.count) hlevel, hy'.out, hy'.running, hy'.stopped⟩

theorem InCycle.sticks (h : InCycle s tx n true t p) (hy : InSymbol y j t p) (m : Nat) :
    ∃ u p', runOps (List.replicate m .stick) t = .next u ∧ InCycle s tx n true u p' ∧ InSymbol y (j + m) u p' := by
  induction m generalizing t p j with
  | zero => exact ⟨t, p, rfl, h, hy⟩
  | succ m ih =>
    obtain ⟨v, p₁, hx, hv, hy₁⟩ := h.stick hy
    obtain ⟨u, p', hrun, hu, hy'⟩ := ih hv hy₁
    exact ⟨u, p', (runOps_cons hx _).trans hrun, hu, by rwa [Nat.add_assoc, Nat.add_comm 1 m] at hy'⟩

theorem InCycle.bfall (h : InCycle s tx n true t p) (hc : s.cfg.ctrW = none) :
    ∃ u p', exec .bfall t = .next u ∧ InCycle s tx (n + 1) false u p' := by
  obtain ⟨-, -, hon, -⟩ := (genOk_pulse_iff h.gen).mp h.inv.gen
  have hfit := fits_of_unbounded (h.same.cfg ▸ hc) (p.c + 1)
  have hx : exec .bfall t = .next _ := execBfall_eq_next.mpr ⟨hon, h.level, tx, p, h.gen, hfit, rfl⟩
  exact ⟨_, _, hx, h.event rfl hx rfl (congrArg (· + 1) h.count) rfl⟩

/-! ### Whole cycles -/

/-- A rise and `j` ticks bring the line to the level of the cycle's symbol (30_encoding.md R82 to R84). -/
theorem InCycle.rise_and_ticks (h : InCycle s tx n false t p) (hc : s.cfg.ctrW = none)
    (hd : readDescriptor s tx = some ⟨name, .pulse q⟩) (j : Nat) :
    ∃ u p', runOps (.brise :: List.replicate j .stick) t = .next u ∧ InCycle s tx n true u p' ∧
      u.out = symbolLevel s.cfg (pulseSymbol s.cfg q n) j := by
  obtain ⟨v, p₁, hx, hv, hy⟩ := h.brise hc hd
  obtain ⟨u, p', hrun, hu, hy'⟩ := hv.sticks hy j
  refine ⟨u, p', (runOps_cons hx _).trans hrun, hu, ?_⟩
  rw [hy'.out, hu.same.cfg, Nat.zero_add]

theorem InCycle.whole (h : InCycle s tx n false t p) (hc : s.cfg.ctrW = none)
    (hd : readDescriptor s tx = some ⟨name, .pulse q⟩) (j : Nat) :
    ∃ u p', runOps (cycle j) t = .next u ∧ InCycle s tx (n + 1) false u p' := by
  obtain ⟨v, p₁, hrun, hv, -⟩ := h.rise_and_ticks hc hd j
  obtain ⟨u, p', hx, hu⟩ := hv.bfall hc
  refine ⟨u, p', ?_, hu⟩
  rw [cycle, ← List.cons_append, runOps_append, hrun, andThen_next, runOps_cons hx]
  rfl

theorem InCycle.cycles (h : InCycle s tx n false t p) (hc : s.cfg.ctrW = none)
    (hd : readDescriptor s tx = some ⟨name, .pulse q⟩) (ns : List Nat) :
    ∃ u p', runOps (Safety.cycles ns) t = .next u ∧ InCycle s tx (n + ns.length) false u p' := by
  induction ns generalizing n t p with
  | nil => exact ⟨t, p, rfl, h⟩
  | cons j ns ih =>
    obtain ⟨v, p₁, hrun, hv⟩ := h.whole hc hd j
    obtain ⟨u, p', hrest, hu⟩ := ih hv
    refine ⟨u, p', ?_, by rwa [List.length_cons, Nat.add_comm ns.length, ← Nat.add_assoc]⟩
    rw [Safety.cycles, runOps_append, hrun, andThen_next, hrest]

end

/-- Settles O60: after the whole cycles the invariant says that the line is low, and after the rise what flag and queue
are; the level in between is that of the symbol the rise started. -/
theorem pulseTransmissionFollowsItsFrame : Obligations.PulseTransmissionFollowsItsFrame := by
  intro s tx name q h hc hg hlow hd ns j
  have hstart : InCycle s tx 0 false s _ := ⟨h, hg, rfl, hlow, .refl s⟩
  obtain ⟨t, p₁, hrun, ht⟩ := hstart.cycles hc hd ns
  rw [Nat.zero_add] at ht
  obtain ⟨u, p, hrise, hu, hlevel⟩ := ht.rise_and_ticks hc hd j
  obtain ⟨-, -, -, -, -, _, _, -, hok₁⟩ := (genOk_pulse_iff ht.gen).mp ht.inv.gen
  obtain ⟨-, -, -, -, hcq, name', q', hd', hok⟩ := (genOk_pulse_iff hu.gen).mp hu.inv.gen
  rw [hu.same.read, hd] at hd'
  obtain ⟨-, rfl⟩ : name = name' ∧ q = q' := by simpa using hd'
  have hterm : p.terminated = true ↔ pulseEnd s.cfg q ≤ ns.length := by
    rw [hok.terminated_iff, edges_high hu.level, hu.count, hu.same.cfg, Nat.lt_succ_iff]
  refine ⟨t, u, p, hrun, (hok₁.low_phase ht.level).1, ?_, hu.gen, hlevel, hu.count, hterm, ?_, hu.same.log,
    hu.same.ant⟩
  · rw [runOps_append, hrun, andThen_next, hrise]
  · rw [hcq, tokensOf]
    simp only [hterm]

end Sys2Proof.Safety
end

section
/-! The contexts of 60_exceptions.md R231: a word the decoder accepts is refused `WrongContext` where `contextOk` says
no, and what `contextOk` says of a class. -/

namespace Sys2Proof.Machine

section
variable {o : Origin} {i : Instr} {s : State} {rest : List Input}

theorem contextOk_of_task (hclass : opClassOf i = .task) : contextOk o i = decide (originContext o = .task) := by
  cases i with
  | brise | bfall | stick | ftick | setout _ | term | sched _ _ | cleanup _ => cases hclass
  | _ => rfl

theorem contextOk_of_event (hclass : opClassOf i = .event) : contextOk o i = decide (o = .timer) := by
  cases i with
  | brise | bfall | stick | ftick => rfl
  | _ => cases hclass

/-- The decoder comes before the context, so a class `10` word must come from inside to be refused here (log 10). -/
theorem step_of_wrong_context (hin : s.inputs = .operation o (encode i).1 (encode i).2 :: rest)
    (hlegal : s.cfg.legal = true) (hinside : originOutside o = true → opClassOf i ≠ .primitive)
    (hctx : contextOk o i = false) : step s = .refused .wrongContext := by
  have hdec : decode (originOutside o) (encode i).1 (encode i).2 = .ok i :=
    decode_eq_ok_iff.mpr ⟨decodeWord_encode i, hinside⟩
  exact step_of_issue_error hin (by simp [issue, hlegal, hdec, hctx])

end

/-- Settles O5: commands run in task context only and events come from their timer only; the primitives among the
statement's operations are presented from inside, so they get as far as the context. -/
theorem wrongContextIsRefused : Obligations.WrongContextIsRefused := by
  intro s o i rest hin hlegal
  refine ⟨fun hclass ho => ?_, fun hi ho => ?_, fun hi ho => ?_, fun hclass ho => ?_, fun hi ho => ?_⟩
  · have hctx : contextOk o i = false := by
      rw [contextOk_of_task hclass]
      obtain rfl | rfl := ho <;> rfl
    exact step_of_wrong_context hin hlegal (fun _ => by simp [hclass]) hctx
  · subst ho
    obtain rfl | ⟨fn, tx, rfl⟩ := hi <;> exact step_of_wrong_context hin hlegal nofun rfl
  · obtain ⟨tx, rfl⟩ := hi
    subst ho
    exact step_of_wrong_context hin hlegal nofun rfl
  · have hctx : contextOk o i = false := by rw [contextOk_of_event hclass, decide_eq_false ho]
    exact step_of_wrong_context hin hlegal (fun _ => by simp [hclass]) hctx
  · obtain ⟨l, rfl⟩ := hi
    subst ho
    exact step_of_wrong_context hin hlegal nofun rfl

end Sys2Proof.Machine
end

section
/-! The antenna (40_antenna.md R110 to R117): what its operations answer in each of its states, and that no operation
replaces an active transmission. -/

namespace Sys2Proof.Machine

section
variable {s t u : State} {tx : TxRef} {hw : Bool} {d : Descriptor}

/-- The hook part of the log as the statements write it (10_state.md R24). -/
theorem hookEvents_eq_ite (slot : Slot) (e : Event) : hookEvents slot e = if slot = .filled then [e] else [] := by
  cases slot <;> rfl

theorem release_of_in_flight (hbusy : s.ant.busy = true) (hrunning : generatorIdle s = false) :
    release s = .refused .releaseInFlight := by
  simp [release, hbusy, hrunning]

theorem generatorIdle_eq_false_iff :
    generatorIdle s = false ↔ s.gen ≠ .invalid ∨ s.tmr.baseOn = true ∨ s.tmr.fixedOn = true := by
  rw [← Bool.not_eq_true, generatorIdle_iff]
  simp only [not_and_or, Bool.not_eq_false, Ne]

/-- With the other timer off, loading a pulse transmission leaves only the base clock running
(41_generator_interface.md R131). -/
theorem loadPulse_with_fixed_timer_off (hfixed : s.tmr.fixedOn = false)
    (hfit : fits s.cfg (s.cfg.syncCycles + s.cfg.waitCycles) = true) :
    loadPulse tx s = .next
      ((s.setGen (.pulse tx ⟨0, 0, false, 0, false, s.cfg.syncCycles + s.cfg.waitCycles, 0, false⟩)).setTmr
        ⟨true, false, false⟩) :=
  loadPulse_eq_next.mpr ⟨hfit, by simp only [hfixed]⟩

/-! ### `REQ` and `REQI` -/

theorem request_of_busy (hbusy : s.ant.busy = true) :
    request tx hw s = .next ((s.addLog (.notify (.busy tx))).setReply .rejectedBusy) :=
  request_eq_next.mpr (.inl ⟨hbusy, rfl⟩)

theorem execReqi_of_unknown {index : Nat} (h : lookupSignal s.signals index = none) :
    execReqi index hw s = .next ((s.addLog (.notify (.unknownSignal index))).setReply .unknownSignal) := by
  rw [execReqi, h]

theorem execReqi_of_known {index : Nat} (h : lookupSignal s.signals index = some tx) :
    execReqi index hw s = request tx hw s := by
  rw [execReqi, h]

section
variable (hfree : s.ant.busy = false) (hidle : generatorIdle s = true)
include hfree hidle

theorem request_accepted (hd : readDescriptor s tx = some d) (hgood : descriptorOk d = true)
    (hload : loadGenerator tx d.variant (takeAntenna tx s) = .next u) :
    request tx true s = .next ((u.addLog (.notify (.processing tx))).setReply .accepted) :=
  request_eq_next.mpr (.inr ⟨hfree, hidle, d, hd, hgood, .inr ⟨rfl, u, hload, rfl⟩⟩)

theorem request_failed (hd : readDescriptor s tx = some d) (hgood : descriptorOk d = true) :
    request tx false s = .next ((free (takeAntenna tx s)).setReply .failedHardwareFault) :=
  request_eq_next.mpr (.inr ⟨hfree, hidle, d, hd, hgood, .inl ⟨rfl, rfl⟩⟩)

/-- The descriptor is tested before the answer of the hardware (41_generator_interface.md R130, R133). -/
theorem request_of_bad_descriptor (hbad : ∀ d, readDescriptor s tx = some d → descriptorOk d = false) :
    request tx hw s = .refused .badDescriptor := by
  have hadm : admittedIs (takeAntenna tx s) tx = true := admittedIs_iff.mpr ⟨rfl, rfl⟩
  have hidle' : generatorIdle (takeAntenna tx s) = true := hidle
  have hread : readDescriptor (takeAntenna tx s) tx = readDescriptor s tx := rfl
  rw [request, if_neg (by simp [hfree]), beginWith, if_pos hadm, if_pos hidle', withGoodDescriptor, hread]
  cases hd : readDescriptor s tx with
  | none => rfl
  | some d => simp [hbad d hd]

end

/-! ### What an operation does to a busy antenna -/

theorem cleanedUp_busy (tx : TxRef) (s : State) : (cleanedUp tx s).ant.busy = false := by
  unfold cleanedUp
  split
  case isTrue => rfl
  case isFalse hfree => simpa using hfree

theorem request_keeps_busy_antenna (hbusy : s.ant.busy = true) (h : request tx hw s = .next t) : t.ant = s.ant := by
  rw [request_of_busy hbusy, next_eq_next] at h
  subst h
  rfl

theorem task_frees_or_keeps_busy_antenna {i : Instr} (hclass : opClassOf i = .task) (hbusy : s.ant.busy = true)
    (h : exec i s = .next t) : t.ant.busy = false ∨ t.ant = s.ant := by
  cases i with
  | acq tx =>
    obtain ⟨-, rfl⟩ | ⟨hfree, -⟩ := execAcq_eq_next.mp h
    · exact .inr rfl
    · simp [hbusy] at hfree
  | rel =>
    obtain ⟨-, rfl⟩ | ⟨-, -, rfl⟩ := execRel_eq_next.mp h
    · exact .inr rfl
    · exact .inl rfl
  | bsy => exact .inr (by rw [next_eq_next.mp h, State.setReply_ant])
  | begin tx hw =>
    obtain ⟨-, -, d, -, -, ⟨-, rfl⟩ | ⟨-, u, hload, rfl⟩⟩ := execBegin_eq_next.mp h
    · exact .inr rfl
    · obtain ⟨g, tm, rfl⟩ := loadGenerator_writes hload
      exact .inr rfl
  | dispatch =>
    obtain ⟨-, rfl⟩ | ⟨k, rest, -, rfl⟩ := execDispatch_eq_next.mp h
    · exact .inr rfl
    · exact .inl (cleanedUp_busy _ _)
  | req tx hw => exact .inr (request_keeps_busy_antenna hbusy h)
  | reqi n hw =>
    cases hlook : lookupSignal s.signals n with
    | none => exact .inr (by rw [next_eq_next.mp ((execReqi_of_unknown hlook).symm.trans h)]; rfl)
    | some tx => exact .inr (request_keeps_busy_antenna hbusy ((execReqi_of_known hlook).symm.trans h))
  | _ => cases hclass

/-- Every operation frees a busy antenna or leaves its group as it is (40_antenna.md R117). -/
theorem exec_frees_or_keeps_busy_antenna {i : Instr} (hbusy : s.ant.busy = true) (h : exec i s = .next t) :
    t.ant.busy = false ∨ t.ant = s.ant := by
  cases hclass : opClassOf i with
  | task => exact task_frees_or_keeps_busy_antenna hclass hbusy h
  | event =>
    obtain ⟨out, gen, level, cq, rfl, -⟩ := event_writes hclass h
    exact .inr rfl
  | primitive =>
    obtain ⟨l, -, rfl⟩ | ⟨g, q, rfl, -⟩ | ⟨tx, rfl, -⟩ := primitive_writes hclass h
    · exact .inr rfl
    · exact .inr rfl
    · rw [next_eq_next.mp ((execCleanup_eq tx s).symm.trans h)]
      exact .inl (cleanedUp_busy tx s)

end

/-- Settles O9: the taken antenna, its hook event written as the statement writes it. -/
theorem acquireAdmitsOnlyAFreeAntenna : Obligations.AcquireAdmitsOnlyAFreeAntenna := by
  intro s tx
  refine ⟨fun hfree => ?_, fun hbusy => execAcq_eq_next.mpr (.inl ⟨hbusy, rfl⟩)⟩
  rw [← hookEvents_eq_ite]
  exact execAcq_eq_next.mpr (.inr ⟨hfree, rfl⟩)

/-- Settles O10: the three cases of `release`. -/
theorem releaseFreesAnIdleAntenna : Obligations.ReleaseFreesAnIdleAntenna := by
  intro s
  refine ⟨fun hfree => ?_, fun hbusy hgen hbase hfixed => ?_, fun hbusy hrunning => ?_⟩
  · exact execRel_eq_next.mpr (.inl ⟨hfree, rfl⟩)
  · rw [← hookEvents_eq_ite]
    exact execRel_eq_next.mpr (.inr ⟨hbusy, generatorIdle_iff.mpr ⟨hgen, hbase, hfixed⟩, rfl⟩)
  · change execRel s = _
    rw [execRel, release_of_in_flight hbusy (generatorIdle_eq_false_iff.mpr hrunning), andThen_refused]

/-- Settles O11: the meaning of `BSY` is that state. -/
theorem busyQueryReturnsTheBusyBit : Obligations.BusyQueryReturnsTheBusyBit :=
  fun _ => rfl

/-- Settles O12: `ACQ` by O9, `REL` by O10, and every other operation frees the antenna or leaves it. -/
theorem noSecondTransmissionIsAdmitted : Obligations.NoSecondTransmissionIsAdmitted := by
  refine ⟨fun s tx => (acquireAdmitsOnlyAFreeAntenna s tx).2, fun i s t hbusy h => ?_,
    fun s => (releaseFreesAnIdleAntenna s).1⟩
  exact (exec_frees_or_keeps_busy_antenna hbusy h).imp_right (congrArg Antenna.active)

/-- Settles O13: either operation is `request`, which loads the generator on the taken antenna. -/
theorem requestAcceptedLoadsTheGenerator : Obligations.RequestAcceptedLoadsTheGenerator := by
  intro s tx i hi hfree hgen hbase hfixed
  have hexec : exec i s = request tx true s := by
    obtain rfl | ⟨n, rfl, hlook⟩ := hi
    · rfl
    · exact execReqi_of_known hlook
  have hidle : generatorIdle s = true := generatorIdle_iff.mpr ⟨hgen, hbase, hfixed⟩
  rw [hexec, ← hookEvents_eq_ite]
  refine ⟨fun name q hd hwf hfit => ?_, fun name q hd hwf => ?_⟩
  · exact request_accepted hfree hidle hd hwf (loadPulse_with_fixed_timer_off hfixed hfit)
  · exact request_accepted hfree hidle hd hwf (loadFixed_eq tx (takeAntenna tx s))

/-- Settles O14: the three ways in which `request` turns a caller away. -/
theorem requestBusyFaultAndBadDescriptor : Obligations.RequestBusyFaultAndBadDescriptor := by
  intro s tx hw
  refine ⟨request_of_busy, fun hfree hgen hbase hfixed => ?_⟩
  have hidle : generatorIdle s = true := generatorIdle_iff.mpr ⟨hgen, hbase, hfixed⟩
  refine ⟨fun d hd hwf => ?_, request_of_bad_descriptor hfree hidle⟩
  rw [← hookEvents_eq_ite, ← hookEvents_eq_ite]
  exact request_failed hfree hidle hd hwf

/-- Settles O16: the look-up is the first thing `REQI` does. -/
theorem requestByIndexLooksUpFirst : Obligations.RequestByIndexLooksUpFirst :=
  fun _ _ _ => ⟨execReqi_of_unknown, fun _ => execReqi_of_known⟩

end Sys2Proof.Machine
end

section
/-! The generator interface (41_generator_interface.md R130 to R134): the tests of `BEGIN` in their order, what it
loads once they pass, and the line primitive `SETOUT`. -/

namespace Sys2Proof.Machine

section
variable {s u : State} {tx : TxRef} {hw : Bool} {d : Descriptor}

theorem admittedIs_eq_false_iff : admittedIs s tx = false ↔ s.ant.busy = false ∨ s.ant.active ≠ some tx := by
  rw [← Bool.not_eq_true, admittedIs_iff, not_and_or, Bool.not_eq_true]

/-- A reference that names no descriptor is refused like one that names an ill-formed one (log 7). -/
theorem withGoodDescriptor_of_bad (hbad : ∀ d, readDescriptor s tx = some d → descriptorOk d = false)
    (f : Descriptor → Run State) : withGoodDescriptor s tx f = .refused .badDescriptor := by
  unfold withGoodDescriptor
  split
  case h_1 d hd => simp [hbad d hd]
  case h_2 => rfl

/-! ### The refusals, in the order of R130 -/

theorem execBegin_of_not_admitted (hadm : admittedIs s tx = false) :
    execBegin tx hw s = .refused .notAdmitted := by
  simp [execBegin, beginWith, hadm]

theorem execBegin_of_running (hadm : admittedIs s tx = true) (hrunning : generatorIdle s = false) :
    execBegin tx hw s = .refused .alreadyBegun := by
  simp [execBegin, beginWith, hadm, hrunning]

section
variable (hadm : admittedIs s tx = true) (hidle : generatorIdle s = true)
include hadm hidle

theorem execBegin_of_bad_descriptor (hbad : ∀ d, readDescriptor s tx = some d → descriptorOk d = false) :
    execBegin tx hw s = .refused .badDescriptor := by
  rw [execBegin, beginWith, if_pos hadm, if_pos hidle, withGoodDescriptor_of_bad hbad]

/-! ### The answers, once every test passes -/

theorem execBegin_ok (hd : readDescriptor s tx = some d) (hgood : descriptorOk d = true)
    (hload : loadGenerator tx d.variant s = .next u) : execBegin tx true s = .next (u.setReply .ok) :=
  execBegin_eq_next.mpr ⟨hadm, hidle, d, hd, hgood, .inr ⟨rfl, u, hload, rfl⟩⟩

theorem execBegin_failed (hd : readDescriptor s tx = some d) (hgood : descriptorOk d = true) :
    execBegin tx false s = .next (s.setReply .errHardwareFault) :=
  execBegin_eq_next.mpr ⟨hadm, hidle, d, hd, hgood, .inl ⟨rfl, rfl⟩⟩

end

end

/-- Settles O17: every test passes, so `BEGIN` answers with what `LoadPulse` or `LoadFixed` leaves. -/
theorem beginLoadsTheGenerator : Obligations.BeginLoadsTheGenerator := by
  intro s tx hbusy hactive hgen hbase hfixed
  have hadm : admittedIs s tx = true := admittedIs_iff.mpr ⟨hbusy, hactive⟩
  have hidle : generatorIdle s = true := generatorIdle_iff.mpr ⟨hgen, hbase, hfixed⟩
  refine ⟨fun name q hd hwf hfit => ?_, fun name q hd hwf => ?_⟩
  · exact execBegin_ok hadm hidle hd hwf (loadPulse_with_fixed_timer_off hfixed hfit)
  · exact execBegin_ok hadm hidle hd hwf (loadFixed_eq tx s)

/-- Settles O18: one lemma for each test that `BEGIN` can fail, and one for the set-up that fails after them. -/
theorem beginRefusalsAndHardwareFault : Obligations.BeginRefusalsAndHardwareFault := by
  intro s tx hw
  refine ⟨fun hother => execBegin_of_not_admitted (admittedIs_eq_false_iff.mpr hother), fun hbusy hactive => ?_⟩
  have hadm : admittedIs s tx = true := admittedIs_iff.mpr ⟨hbusy, hactive⟩
  refine ⟨fun hrunning => execBegin_of_running hadm (generatorIdle_eq_false_iff.mpr hrunning),
    fun hgen hbase hfixed => ?_⟩
  have hidle : generatorIdle s = true := generatorIdle_iff.mpr ⟨hgen, hbase, hfixed⟩
  exact ⟨execBegin_of_bad_descriptor hadm hidle, fun _ hd hwf => execBegin_failed hadm hidle hd hwf⟩

/-- Settles O19: the new level of the line, and the reply of an operation without a result. -/
theorem setOutputDrivesTheLine : Obligations.SetOutputDrivesTheLine :=
  fun _ _ => finish_eq_next.mpr rfl

end Sys2Proof.Machine
end

section
/-! The pulse-code handlers, one event at a time (42_pulse_code.md R150 to R158): the next state each stage of a rise, a
fall and a tick gives, on the conditions of its rule alone. -/

namespace Sys2Proof.Safety

open Sys2Proof.Machine

section
variable {s u : State} {tx : TxRef} {p : PulseRegs}

/-! ### The handlers, in a state that enables them -/

theorem execBrise_of_stage (hg : s.gen = .pulse tx p) (hon : s.tmr.baseOn = true) (hlow : s.tmr.baseLevel = false)
    (hu : riseStage tx p s = .next u) : exec .brise s = .next ((setBaseLevel true u).setReply .nothing) :=
  execBrise_eq_next.mpr ⟨hon, hlow, tx, p, u, hg, hu, rfl⟩

theorem execStick_of_pulse (hg : s.gen = .pulse tx p) (hon : s.tmr.baseOn = true) :
    exec .stick s = .next ((if p.oscRunning then oscTick tx p s else s).setReply .nothing) :=
  execStick_eq_next.mpr ⟨hon, tx, p, hg, rfl⟩

theorem execStick_of_stopped (hg : s.gen = .pulse tx p) (hon : s.tmr.baseOn = true) (hosc : p.oscRunning = false) :
    exec .stick s = .next { s with reply := .nothing } := by
  rw [execStick_of_pulse hg hon, if_neg (by simp [hosc])]
  rfl

theorem execBfall_of_pulse (hg : s.gen = .pulse tx p) (hon : s.tmr.baseOn = true) (hhigh : s.tmr.baseLevel = true)
    (hfit : fits s.cfg (p.c + 1) = true) :
    exec .bfall s = .next ((setBaseLevel false ((s.setGen (.pulse tx
      { p with oscRunning := false, oscLevel := false, c := p.c + 1 })).setOut false)).setReply .nothing) :=
  execBfall_eq_next.mpr ⟨hon, hhigh, tx, p, hg, hfit, rfl⟩

/-- `TERM` of a pulse-code generator, whatever the queue holds (44_dispatcher.md R195, R196). -/
theorem terminate_pulse_once (hg : s.gen = .pulse tx p)
    (hroom : p.terminated = false → s.cq.length < s.cfg.cqDepth) :
    terminate s = .next ((s.setGen (.pulse tx { p with terminated := true })).setCq
      (if p.terminated then s.cq else s.cq ++ [⟨.cleanup, tx⟩])) := by
  cases hterm : p.terminated with
  | true =>
    have hsame : s.gen = .pulse tx { p with terminated := true } := by rw [hg, ← hterm]
    refine terminate_eq_next.mpr (.inl ⟨tx, p, hg, hterm, ?_⟩)
    rw [← hsame]
    rfl
  | false => exact terminate_eq_next.mpr (.inr (.inr (.inl ⟨tx, p, hg, hterm, hroom hterm, rfl⟩)))

/-! ### The values the formula of R154 and the budgets of R153 test -/

theorem tickBudget_fits {c : Params} (hone : fits c c.askTicksOne = true) (hlt : c.askTicksZero < c.askTicksOne)
    (b : Nat) : fits c (tickBudget c b) = true := by
  refine fits_mono hone ?_
  unfold tickBudget
  split
  · exact le_rfl
  · exact hlt.le

/-- The start of a repetition after the first bounds every intermediate result of its formula (10_state.md R54). -/
theorem repStartFits_of_fits {c : Params} {L k : Nat} (h : fits c (repStart c L (k + 1)) = true) :
    repStartFits c L (k + 1) = true := by
  have hfactor : L + c.gapCycles ≤ (L + c.gapCycles) * (k + 1) := Nat.le_mul_of_pos_right _ k.succ_pos
  have hproduct : (L + c.gapCycles) * (k + 1) ≤ repStart c L (k + 1) := Nat.le_add_left _ _
  have hbase : c.syncCycles + c.waitCycles ≤ repStart c L (k + 1) := Nat.le_add_right _ _
  simp only [repStartFits, fits_mono h hbase, fits_mono h (hfactor.trans hproduct), fits_mono h hproduct, h,
    Bool.and_self]

end

/-! ### The rise, by its stage -/

/-- Settles O21: the second test of R150 holds and the first does not. -/
theorem riseInWaitStageHoldsLow : Obligations.RiseInWaitStageHoldsLow := by
  intro s tx p hg hon hlow hsync hnext
  exact execBrise_of_stage hg hon hlow (riseStage_eq_next.mpr (.inr (.inl ⟨hsync, hnext, rfl⟩)))

/-- Settles O22: the bit is there, and the larger budget bounds the one it takes. -/
theorem riseInCodeStageStartsABurst : Obligations.RiseInCodeStageStartsABurst := by
  intro s tx p name q b hg hon hlow hsync hnext hd hbit hb _ hfit hone hticks
  have hcode : codeBit q p.bitIdx = some b := by rw [codeBit, if_pos hbit, hb]
  have hstage := stageCode_eq_next (tx := tx).mpr ⟨b, hcode, hfit, tickBudget_fits hone hticks b, rfl⟩
  exact execBrise_of_stage hg hon hlow
    (riseStage_eq_next.mpr (.inr (.inr ⟨hsync, hnext, name, q, hd, .inl ⟨hbit, hstage⟩⟩)))

/-- Settles O23: the sum that fits bounds every intermediate result of the formula. -/
theorem repeatCheckStartsTheNextRepetition : Obligations.RepeatCheckStartsTheNextRepetition := by
  intro s tx p name q hg hon hlow hsync hnext hd hbit hreps hfit hstart
  have hstage := stageRepeatCheck_eq_next (tx := tx).mpr
    ⟨hfit, .inr ⟨hreps, repStartFits_of_fits hstart, rfl⟩⟩
  exact execBrise_of_stage hg hon hlow
    (riseStage_eq_next.mpr (.inr (.inr ⟨hsync, hnext, name, q, hd, .inr ⟨hbit, hstage⟩⟩)))

/-- Settles O24: `TERM` runs on the counted repetition with the line low already. -/
theorem repeatCheckTerminatesOnce : Obligations.RepeatCheckTerminatesOnce := by
  intro s tx p name q hg hon hlow hsync hnext hd hbit hreps hfit hroom
  have hterm := terminate_pulse_once
    (s := (s.setGen (.pulse tx { p with repsSent := p.repsSent + 1 })).setOut false) rfl hroom
  have hstage := stageRepeatCheck_eq_next.mpr ⟨hfit, .inl ⟨hreps, hterm⟩⟩
  exact execBrise_of_stage hg hon hlow
    (riseStage_eq_next.mpr (.inr (.inr ⟨hsync, hnext, name, q, hd, .inr ⟨hbit, hstage⟩⟩)))

/-! ### The fall and the tick -/

/-- Settles O25: the fall asks only that the incremented count fits. -/
theorem fallStopsTheOscillatorAndCounts : Obligations.FallStopsTheOscillatorAndCounts :=
  fun _ _ _ hg hon hhigh hfit => execBfall_of_pulse hg hon hhigh hfit

/-- Settles O26: stopped, exhausted, or a flip that uses up one of the budget. -/
theorem subCarrierTickFlipsOrStops : Obligations.SubCarrierTickFlipsOrStops := by
  intro s tx p hg hon
  have htick := execStick_of_pulse hg hon
  refine ⟨execStick_of_stopped hg hon, fun hosc hzero => ?_, fun b hosc hbudget => ?_⟩
  · rw [htick, if_pos hosc, oscTick, if_pos hzero]
    rfl
  · rw [htick, if_pos hosc, oscTick, if_neg (by simp [hbudget]), hbudget]
    rfl

/-- In the high phase of a cycle whose oscillator is stopped, ticks do nothing and the fall lowers the line, after an
operation without a result (42_pulse_code.md R155, R156). -/
theorem ticks_and_fall_of_stopped {s : State} {tx : TxRef} {p : PulseRegs} {n : Nat} (hg : s.gen = .pulse tx p)
    (hon : s.tmr.baseOn = true) (hhigh : s.tmr.baseLevel = true) (hosc : p.oscRunning = false)
    (hreply : s.reply = .nothing) :
    runOps (List.replicate n .stick) s = .next s ∧
    (fits s.cfg (p.c + 1) = true →
      ∃ t, runOps (List.replicate n .stick ++ [.bfall]) s = .next t ∧ t.out = false) := by
  have htick : exec .stick s = .next s := by
    rw [execStick_of_stopped hg hon hosc, ← hreply]
  have hticks : runOps (List.replicate n .stick) s = .next s := by
    induction n with
    | zero => rfl
    | succ n ih => exact (runOps_cons htick _).trans ih
  refine ⟨hticks, fun hfit => ?_⟩
  rw [runOps_append, hticks, andThen_next, runOps_cons (execBfall_of_pulse hg hon hhigh hfit)]
  exact ⟨_, rfl, rfl⟩

/-- Settles O20: the first test of R150 holds, and the rise of that stage leaves the oscillator stopped. -/
theorem riseInSyncStageHoldsHigh : Obligations.RiseInSyncStageHoldsHigh := by
  intro s tx p hg hon hlow hsync
  have hrise : exec .brise s =
      .next { s with out := true, tmr := { s.tmr with baseLevel := true }, reply := .nothing } :=
    execBrise_of_stage hg hon hlow (riseStage_eq_next.mpr (.inl ⟨hsync, rfl⟩))
  refine ⟨hrise, fun hosc n => ?_⟩
  rw [runOps_cons hrise, runOps_cons hrise, hrise]
  exact ticks_and_fall_of_stopped hg hon rfl hosc rfl

/-- A tick writes the line and of the registers the oscillator's three (42_pulse_code.md R156). -/
theorem execStick_writes_oscillator {s : State} {tx : TxRef} {p : PulseRegs} (hg : s.gen = .pulse tx p)
    (hon : s.tmr.baseOn = true) :
    ∃ out running budget level, exec .stick s = .next (((s.setOut out).setGen (.pulse tx
      { p with oscRunning := running, oscBudget := budget, oscLevel := level })).setReply .nothing) := by
  rw [execStick_of_pulse hg hon]
  split
  · unfold oscTick
    split
    · exact ⟨_, _, _, _, rfl⟩
    · exact ⟨_, _, _, _, rfl⟩
  · exact ⟨s.out, p.oscRunning, p.oscBudget, p.oscLevel, by rw [← hg]; rfl⟩

/-- Settles O28: the fall overwrites all that the tick before it wrote but the budget, and stops the oscillator for the
tick after it. -/
theorem tickAndFallInEitherOrder : Obligations.TickAndFallInEitherOrder := by
  intro s tx p hg hon hhigh hfit
  obtain ⟨out, running, budget, level, htick⟩ := execStick_writes_oscillator hg hon
  have hfallAfter := execBfall_of_pulse (s := ((s.setOut out).setGen (.pulse tx
    { p with oscRunning := running, oscBudget := budget, oscLevel := level })).setReply .nothing) rfl hon hhigh hfit
  have hfall := execBfall_of_pulse hg hon hhigh hfit
  have htickAfter := execStick_of_stopped (s := (setBaseLevel false ((s.setGen (.pulse tx
    { p with oscRunning := false, oscLevel := false, c := p.c + 1 })).setOut false)).setReply .nothing) rfl hon rfl
  exact ⟨_, _, _, _, (runOps_cons htick _).trans (runOps_cons hfallAfter _),
    (runOps_cons hfall _).trans (runOps_cons htickAfter _), rfl, rfl, rfl, rfl, rfl, rfl, rfl, rfl⟩

end Sys2Proof.Safety
end

section
/-! What the pulse-code generator's registers and the line can do under the invariant (42_pulse_code.md R157 to R165):
where the line rises, that the registers only move forward, and when the generator terminates. -/

namespace Sys2Proof.Safety

open Sys2Proof.Machine

section
variable {i : Instr} {s t u : State} {tx tx' : TxRef} {p p' : PulseRegs} {q : PulsePayload} {name : String}

/-! ### The other events of a pulse-code generator -/

theorem eq_of_bfall (hg : s.gen = .pulse tx p) (hx : exec .bfall s = .next t) :
    t = (setBaseLevel false ((s.setGen (.pulse tx
      { p with oscRunning := false, oscLevel := false, c := p.c + 1 })).setOut false)).setReply .nothing := by
  obtain ⟨-, -, tx', p', hg', -, rfl⟩ := execBfall_eq_next.mp hx
  obtain ⟨rfl, rfl⟩ := Gen.pulse.inj (hg.symm.trans hg')
  rfl

theorem ftick_ne_next_of_pulse (hg : s.gen = .pulse tx p) : exec .ftick s ≠ .next t := by
  intro hx
  obtain ⟨-, tx', f, u, hg', -⟩ := execFtick_eq_next.mp hx
  cases hg.symm.trans hg'

/-! ### Which events raise the line -/

theorem terminate_out (hx : terminate s = .next t) : t.out = s.out := by
  obtain ⟨g, cq, rfl, -⟩ := terminate_writes hx
  rfl

/-- Every stage but SYNC lowers the line or leaves it (42_pulse_code.md R160). -/
theorem riseStage_out (hx : riseStage tx p s = .next t) (hpast : s.cfg.syncCycles ≤ p.c) :
    t.out = false ∨ t.out = s.out := by
  obtain ⟨hsync, -⟩ | ⟨-, -, rfl⟩ | ⟨-, -, name, q, -, ⟨-, hcode⟩ | ⟨-, hcheck⟩⟩ := riseStage_eq_next.mp hx
  · exact absurd hsync hpast.not_gt
  · exact .inl rfl
  · obtain ⟨b, -, -, -, rfl⟩ := stageCode_eq_next.mp hcode
    exact .inr rfl
  · obtain ⟨-, ⟨-, hterm⟩ | ⟨-, -, rfl⟩⟩ := stageRepeatCheck_eq_next.mp hcheck
    · exact .inl (terminate_out hterm)
    · exact .inr rfl

theorem brise_raises (hg : s.gen = .pulse tx p) (hx : exec .brise s = .next t) (hout : s.out = false)
    (hraised : t.out = true) : p.c < s.cfg.syncCycles := by
  obtain ⟨-, -, tx', p', u, hg', hu, rfl⟩ := execBrise_eq_next.mp hx
  obtain ⟨rfl, rfl⟩ := Gen.pulse.inj (hg.symm.trans hg')
  by_contra hpast
  have hline : u.out = true := hraised
  have hstage := riseStage_out hu (not_lt.mp hpast)
  simp [hline, hout] at hstage

theorem stick_raises (hg : s.gen = .pulse tx p) (hx : exec .stick s = .next t) (hout : s.out = false)
    (hraised : t.out = true) : p.oscRunning = true ∧ 0 < p.oscBudget ∧ p.oscLevel = false := by
  obtain ⟨-, tx', p', hg', rfl⟩ := execStick_eq_next.mp hx
  obtain ⟨rfl, rfl⟩ := Gen.pulse.inj (hg.symm.trans hg')
  cases hosc : p.oscRunning with
  | false => simp [hosc, hout] at hraised
  | true =>
    rw [hosc, if_pos rfl] at hraised
    unfold oscTick at hraised
    split at hraised
    case isTrue => cases hraised
    case isFalse hbudget => exact ⟨rfl, Nat.pos_of_ne_zero hbudget, by simpa using hraised⟩

/-! ### The high line of the invariant -/

theorem PulseOk.of_high_line (h : PulseOk s q p) (hout : s.out = true) :
    s.tmr.baseLevel = true ∧
      ((p.c < s.cfg.syncCycles ∧ p.oscRunning = false) ∨
        (s.cfg.syncCycles ≤ p.c ∧ p.oscRunning = true ∧ p.oscLevel = true ∧ p.terminated = false)) := by
  have hhigh : s.tmr.baseLevel = true := by
    by_contra hlow
    have := (h.low_phase (by simpa using hlow)).1
    simp [hout] at this
  refine ⟨hhigh, ?_⟩
  cases hosc : p.oscRunning with
  | false =>
    have hline := h.high_phase hhigh
    rw [hout, h.level_running hosc, Bool.or_false] at hline
    exact .inl ⟨of_decide_eq_true hline.symm, rfl⟩
  | true =>
    have hpast := (h.high_of_running hosc).2
    have hline := h.high_phase hhigh
    rw [hout, decide_eq_false hpast, Bool.false_or] at hline
    exact .inr ⟨not_lt.mp hpast, rfl, hline.symm, (h.burst hosc).1⟩

/-! ### What a rise does under the invariant -/

theorem PulseOk.stopped_of_terminated (h : PulseOk s q p) (hterm : p.terminated = true) : p.oscRunning = false := by
  by_contra hosc
  have := (h.burst (by simpa using hosc)).1
  simp [hterm] at this

theorem PulseOk.running_of_early (h : PulseOk s q p) (hlow : s.tmr.baseLevel = false) (hnext : p.c < p.nextRepStart) :
    p.terminated = false :=
  (h.waiting (by rwa [edges_low hlow])).1

theorem PulseOk.running_of_bits_left (h : PulseOk s q p) (hbit : p.bitIdx < q.L) : p.terminated = false := by
  by_contra hterm
  have := (h.ended (by simpa using hterm)).2.1
  omega

theorem PulseOk.running_of_repetitions_left (h : PulseOk s q p) (hreps : p.repsSent < q.R) :
    p.terminated = false := by
  by_contra hterm
  have := (h.ended (by simpa using hterm)).1
  omega

theorem Inv.pulse_tokens (h : Inv s) (hg : s.gen = .pulse tx p) : s.cq = tokensOf tx p.terminated := by
  obtain ⟨-, -, -, -, hcq, -⟩ := (genOk_pulse_iff hg).mp h.gen
  exact hcq

theorem Inv.pulse_descriptor (h : Inv s) (hg : s.gen = .pulse tx p) :
    ∃ name q, readDescriptor s tx = some ⟨name, .pulse q⟩ ∧ PulseOk s q p := by
  obtain ⟨-, -, -, -, -, hdescriptor⟩ := (genOk_pulse_iff hg).mp h.gen
  exact hdescriptor

/-- The invariant's clause of a running pulse-code generator, for the descriptor at hand. -/
theorem Inv.pulseOk (h : Inv s) (hg : s.gen = .pulse tx p) (hd : readDescriptor s tx = some ⟨name, .pulse q⟩) :
    PulseOk s q p := by
  obtain ⟨name', q', hd', hok⟩ := h.pulse_descriptor hg
  obtain ⟨-, rfl⟩ : name = name' ∧ q = q' := by simpa [hd] using hd'
  exact hok

/-- The line and the registers a rise leaves, by its stage (42_pulse_code.md R150 to R154); the first case is SYNC and
WAIT, and only the last one is met by a terminated generator (R163). -/
inductive Rise (s : State) (q : PulsePayload) (p : PulseRegs) : Level → PulseRegs → Prop
  | early (hrun : p.terminated = false) : Rise s q p (decide (p.c < s.cfg.syncCycles)) p
  | code (b : Nat) (hrun : p.terminated = false) :
      Rise s q p s.out { p with
        bitIdx := p.bitIdx + 1, oscBudget := tickBudget s.cfg b, oscLevel := false, oscRunning := true }
  | again (hrun : p.terminated = false) (hbit : p.bitIdx = q.L) :
      Rise s q p s.out { p with
        repsSent := p.repsSent + 1, bitIdx := 0, nextRepStart := repStart s.cfg q.L (p.repsSent + 1) }
  | last : Rise s q p false { p with repsSent := p.repsSent + 1, terminated := true }

theorem Inv.riseStage (h : Inv s) (hg : s.gen = .pulse tx p) (hd : readDescriptor s tx = some ⟨name, .pulse q⟩)
    (hlow : s.tmr.baseLevel = false) (hx : Machine.riseStage tx p s = .next u) :
    ∃ out p', Rise s q p out p' ∧
      u = ((s.setOut out).setGen (.pulse tx p')).setCq (tokensOf tx p'.terminated) := by
  have hok := h.pulseOk hg hd
  have hcq := h.pulse_tokens hg
  obtain ⟨hsync, rfl⟩ | ⟨hsync, hnext, rfl⟩ | ⟨-, -, name', q', hd', ⟨hbit, hcode⟩ | ⟨hbit, hcheck⟩⟩ :=
    riseStage_eq_next.mp hx
  · -- stage SYNC
    have hstart : s.cfg.syncCycles ≤ codeStart s.cfg := Nat.le_add_right _ _
    have hrun := hok.running_of_early hlow (hsync.trans_le (hstart.trans hok.codeStart_le_nextRepStart))
    refine ⟨_, _, .early hrun, ?_⟩
    rw [decide_eq_true hsync, ← hg, ← hcq]
    rfl
  · -- stage WAIT
    refine ⟨_, _, .early (hok.running_of_early hlow hnext), ?_⟩
    rw [decide_eq_false hsync.not_gt, ← hg, ← hcq]
    rfl
  · -- stage CODE
    obtain ⟨-, rfl⟩ : name = name' ∧ q = q' := by simpa [hd] using hd'
    obtain ⟨b, -, -, -, rfl⟩ := stageCode_eq_next.mp hcode
    refine ⟨_, _, .code b (hok.running_of_bits_left hbit), ?_⟩
    rw [← hcq]
    rfl
  · -- stage REPEAT-CHECK
    obtain ⟨-, rfl⟩ : name = name' ∧ q = q' := by simpa [hd] using hd'
    obtain ⟨-, ⟨-, hterm⟩ | ⟨hreps, -, rfl⟩⟩ := stageRepeatCheck_eq_next.mp hcheck
    · exact ⟨_, _, .last, terminate_pulse hterm rfl hcq⟩
    · refine ⟨_, _, .again (hok.running_of_repetitions_left (Nat.lt_of_succ_lt hreps))
        (le_antisymm hok.bitIdx_le hbit), ?_⟩
      rw [← hcq]
      rfl

/-- What `BRISE` leaves under the invariant: its stage's line and registers, and the queue that goes with the flag. -/
theorem Inv.rise (h : Inv s) (hg : s.gen = .pulse tx p) (hd : readDescriptor s tx = some ⟨name, .pulse q⟩)
    (hx : exec .brise s = .next t) :
    s.tmr.baseLevel = false ∧ ∃ out p', Rise s q p out p' ∧ t = { s with
      out := out
      gen := .pulse tx p'
      tmr := { s.tmr with baseLevel := true }
      cq := tokensOf tx p'.terminated
      reply := .nothing } := by
  obtain ⟨-, hlow, tx', p', u, hg', hu, rfl⟩ := execBrise_eq_next.mp hx
  obtain ⟨rfl, rfl⟩ := Gen.pulse.inj (hg.symm.trans hg')
  obtain ⟨out, p', hrise, rfl⟩ := h.riseStage hg hd hlow hu
  exact ⟨hlow, out, p', hrise, rfl⟩

theorem Rise.c_eq {out : Level} (h : Rise s q p out p') : p'.c = p.c := by
  cases h <;> rfl

/-! ### Forward only -/

/-- The registers of 42_pulse_code.md R159 that never go back. -/
structure Forward (p p' : PulseRegs) : Prop where
  c : p.c ≤ p'.c
  reps : p.repsSent ≤ p'.repsSent
  start : p.nextRepStart ≤ p'.nextRepStart
  flag : p.terminated = true → p'.terminated = true

/-- Every stage moves forward; the start of a repetition lies after that of the one before it. -/
theorem Rise.forward {out : Level} (h : Rise s q p out p') (hok : PulseOk s q p) : Forward p p' := by
  cases h with
  | early hrun => exact ⟨le_rfl, le_rfl, le_rfl, id⟩
  | code b hrun => exact ⟨le_rfl, le_rfl, le_rfl, id⟩
  | again hrun hbit =>
    refine ⟨le_rfl, Nat.le_succ _, ?_, id⟩
    rw [(hok.running_reps hrun).2]
    exact Nat.add_le_add_left (Nat.mul_le_mul_left _ (Nat.le_succ _)) _
  | last => exact ⟨le_rfl, Nat.le_succ _, le_rfl, fun _ => rfl⟩

theorem Rise.bitIdx_back {out : Level} (h : Rise s q p out p') (hback : p'.bitIdx < p.bitIdx) :
    p'.bitIdx = 0 ∧ p.bitIdx = q.L := by
  cases h with
  | early hrun => exact absurd hback (Nat.lt_irrefl _)
  | code b hrun => exact absurd hback (Nat.le_succ _).not_gt
  | again hrun hbit => exact ⟨rfl, hbit⟩
  | last => exact absurd hback (Nat.lt_irrefl _)

/-- A command or a clean-up that leaves a pulse-code generator running has not touched it. -/
theorem pulse_regs_eq_of_task (hw : TaskWrites i s t) (hg : s.gen = .pulse tx p) (hg' : t.gen = .pulse tx' p') :
    p' = p := by
  obtain ⟨busy, active, gen, tmr, cq, events, reply, rfl, hsame | ⟨hidle, -⟩ | ⟨hempty, -⟩⟩ := hw
  · exact (Gen.pulse.inj (hg'.symm.trans (hsame.trans hg))).2
  · cases hg.symm.trans hidle
  · cases hg'.symm.trans hempty

/-- Beside the interrupt events only `TERM` writes the registers, and only the flag (44_dispatcher.md R195). -/
theorem Inv.pulse_regs_of_not_event (h : Inv s) (hclass : opClassOf i ≠ .event) (hx : exec i s = .next t)
    (hg : s.gen = .pulse tx p) (hg' : t.gen = .pulse tx' p') : p' = p ∨ p' = { p with terminated := true } := by
  cases hc : opClassOf i with
  | event => exact absurd hc hclass
  | task => exact .inl (pulse_regs_eq_of_task (task_writes hc hx) hg hg')
  | primitive =>
    cases i with
    | setout l =>
      obtain rfl := finish_eq_next.mp hx
      exact .inl (Gen.pulse.inj (hg'.symm.trans hg)).2
    | term =>
      obtain ⟨u, hu, rfl⟩ := execTerm_eq_next.mp hx
      obtain rfl := terminate_pulse hu hg (h.pulse_tokens hg)
      exact .inr (Gen.pulse.inj hg').2.symm
    | sched fn tx =>
      obtain ⟨-, rfl⟩ := execSched_eq_next.mp hx
      exact .inl (Gen.pulse.inj (hg'.symm.trans hg)).2
    | cleanup tx => exact .inl (pulse_regs_eq_of_task (execCleanup_writes hx) hg hg')
    | _ => cases hc

/-- Every operation but `BRISE` moves the registers forward and keeps `P.bit_idx`. -/
theorem Inv.forward_of_not_rise (h : Inv s) (hi : i ≠ .brise) (hx : exec i s = .next t) (hg : s.gen = .pulse tx p)
    (hg' : t.gen = .pulse tx' p') : Forward p p' ∧ p'.bitIdx = p.bitIdx := by
  by_cases hclass : opClassOf i = .event
  · cases i with
    | brise => exact absurd rfl hi
    | bfall =>
      obtain rfl := eq_of_bfall hg hx
      obtain ⟨-, rfl⟩ := Gen.pulse.inj hg'
      exact ⟨⟨Nat.le_succ _, le_rfl, le_rfl, id⟩, rfl⟩
    | stick =>
      obtain ⟨hon, -⟩ := execStick_eq_next.mp hx
      obtain ⟨out, running, budget, level, htick⟩ := execStick_writes_oscillator hg hon
      obtain rfl := next_eq_next.mp (htick.symm.trans hx)
      obtain ⟨-, rfl⟩ := Gen.pulse.inj hg'
      exact ⟨⟨le_rfl, le_rfl, le_rfl, id⟩, rfl⟩
    | ftick => exact absurd hx (ftick_ne_next_of_pulse hg)
    | _ => cases hclass
  · obtain rfl | rfl := h.pulse_regs_of_not_event hclass hx hg hg'
    · exact ⟨⟨le_rfl, le_rfl, le_rfl, id⟩, rfl⟩
    · exact ⟨⟨le_rfl, le_rfl, le_rfl, fun _ => rfl⟩, rfl⟩

end

/-- Settles O29: a fall lowers the line, so the rise and the tick remain; the second part reads R160 off the
invariant. -/
theorem lineIsHighOnlyInSyncOrBurst : Obligations.LineIsHighOnlyInSyncOrBurst := by
  refine ⟨fun i s t tx p hclass hg hx hout hraised => ?_, fun s tx p h hg hout => ?_⟩
  · cases i with
    | brise => exact .inl ⟨rfl, brise_raises hg hx hout hraised⟩
    | bfall =>
      obtain rfl := eq_of_bfall hg hx
      cases hraised
    | stick => exact .inr ⟨rfl, stick_raises hg hx hout hraised⟩
    | ftick => exact absurd hx (ftick_ne_next_of_pulse hg)
    | _ => cases hclass
  · obtain ⟨name, q, -, hok⟩ := h.pulse_descriptor hg
    exact hok.of_high_line hout

/-- Settles O30: a rise by its stage, and every other operation keeps `P.bit_idx`. -/
theorem pulseRegistersOnlyMoveForward : Obligations.PulseRegistersOnlyMoveForward := by
  intro i s t tx tx' p p' h hx hg hg'
  by_cases hi : i = .brise
  · subst hi
    obtain ⟨name, q, hd, hok⟩ := h.pulse_descriptor hg
    obtain ⟨-, out, p₁, hrise, rfl⟩ := h.rise hg hd hx
    obtain ⟨-, rfl⟩ := Gen.pulse.inj hg'
    obtain ⟨hc, hreps, hstart, hflag⟩ := hrise.forward hok
    refine ⟨hc, hreps, hstart, fun hback => ?_, hflag⟩
    obtain ⟨hzero, hall⟩ := hrise.bitIdx_back hback
    exact ⟨rfl, hzero, name, q, hd, hall⟩
  · obtain ⟨⟨hc, hreps, hstart, hflag⟩, hbit⟩ := h.forward_of_not_rise hi hx hg hg'
    exact ⟨hc, hreps, hstart, fun hback => absurd hbit hback.ne, hflag⟩

/-- Settles O31: a terminated generator's line is low, its oscillator stopped and its token queued, so what a trailing
event writes of them is what they hold. -/
theorem trailingPulseEventsAreHarmless : Obligations.TrailingPulseEventsAreHarmless := by
  intro i s t tx p h hg hterm hclass hx
  obtain ⟨name, q, hd, hok⟩ := h.pulse_descriptor hg
  have hout := hok.quiet_of_terminated hterm
  have hosc := hok.stopped_of_terminated hterm
  have hlevel := hok.level_running hosc
  refine ⟨hout, ?_⟩
  cases i with
  | brise =>
    obtain ⟨-, out, p', hrise, rfl⟩ := h.rise hg hd hx
    cases hrise with
    | early hrun => simp [hterm] at hrun
    | code b hrun => simp [hterm] at hrun
    | again hrun => simp [hterm] at hrun
    | last =>
      have hcq : s.cq = tokensOf tx true := by rw [h.pulse_tokens hg, hterm]
      exact ⟨p.c, p.repsSent + 1, true, by simp only [hout, hcq, hterm]⟩
  | bfall =>
    obtain rfl := eq_of_bfall hg hx
    refine ⟨p.c + 1, p.repsSent, false, ?_⟩
    rw [hosc, hlevel, hout]
    rfl
  | stick =>
    obtain ⟨hon, -⟩ := execStick_eq_next.mp hx
    obtain rfl := next_eq_next.mp ((execStick_of_stopped hg hon hosc).symm.trans hx)
    refine ⟨p.c, p.repsSent, s.tmr.baseLevel, ?_⟩
    rw [← hg]
  | ftick => exact absurd hx (ftick_ne_next_of_pulse hg)
  | _ => cases hclass

/-- Settles O32: by the invariant before and after the rise, the flag is clear up to the cycle of R165 and set past it,
and the rise adds one edge. -/
theorem pulseTerminatesAtItsLastCycle : Obligations.PulseTerminatesAtItsLastCycle := by
  intro s t tx p p' name q h hg hd hx hg' hrun
  have hafter := h.event rfl hx
  obtain ⟨hlow, out, p₁, hrise, rfl⟩ := h.rise hg hd hx
  obtain ⟨-, rfl⟩ := Gen.pulse.inj hg'
  have hbefore := (h.pulseOk hg hd).edges_le_pulseEnd hrun
  rw [edges_low hlow] at hbefore
  rw [(hafter.pulseOk rfl hd).terminated_iff, edges_high rfl, hrise.c_eq]
  change pulseEnd s.cfg q < p.c + 1 ↔ p.c = pulseEnd s.cfg q
  omega

end Sys2Proof.Safety
end

section
/-! The fixed-code handler, one tick at a time (43_fixed_code.md R180 to R184): the next state each branch gives, on the
conditions of its rule alone. -/

namespace Sys2Proof.Safety

open Sys2Proof.Machine

section
variable {s u : State} {tx : TxRef} {f g : FixedRegs} {q : FixedPayload} {name : String}

/-- An enabled tick takes its branch and then counts (43_fixed_code.md R180, R184). -/
theorem execFtick_of_branch (hg : s.gen = .fixed tx f) (hon : s.tmr.fixedOn = true)
    (hu : tickBranch tx f s = .next u) (hug : u.gen = .fixed tx g) (hfit : fits u.cfg (g.t + 1) = true) :
    exec .ftick s = .next ((u.setGen (.fixed tx { g with t := g.t + 1 })).setReply .nothing) :=
  execFtick_eq_next.mpr ⟨hon, tx, f, u, hg, hu, tx, g, hug, hfit, rfl⟩

theorem tickBranch_of_repCheck (hnext : f.nextRepStart ≤ f.t) (hd : readDescriptor s tx = some ⟨name, .fixed q⟩)
    (hbit : f.bitIdx = bitCount q) (hcheck : branchRepCheck tx f q s = .next u) : tickBranch tx f s = .next u :=
  tickBranch_eq_next.mpr (.inr ⟨hnext, name, q, hd, .inl ⟨hbit, hcheck⟩⟩)

/-- `TERM` of a fixed-code generator, whatever the queue holds (44_dispatcher.md R195, R196). -/
theorem terminate_fixed_once (hg : s.gen = .fixed tx f)
    (hroom : f.terminated = false → s.cq.length < s.cfg.cqDepth) :
    terminate s = .next ((s.setGen (.fixed tx { f with terminated := true })).setCq
      (if f.terminated then s.cq else s.cq ++ [⟨.cleanup, tx⟩])) := by
  cases hterm : f.terminated with
  | true =>
    have hsame : s.gen = .fixed tx { f with terminated := true } := by rw [hg, ← hterm]
    refine terminate_eq_next.mpr (.inr (.inl ⟨tx, f, hg, hterm, ?_⟩))
    rw [← hsame]
    rfl
  | false => exact terminate_eq_next.mpr (.inr (.inr (.inr ⟨tx, f, hg, hterm, hroom hterm, rfl⟩)))

/-- Bit `i` of a buffer as long as `code_len` says, in its byte (30_encoding.md R90). -/
theorem dataBit_eq_bit_of_byte {i : Nat} (hlen : q.codeLen = q.data.length) (hi : i < bitCount q) :
    ∃ b, q.data[i / 8]? = some b ∧ dataBit q i = some (b.getLsbD (7 - i % 8)) := by
  have hbyte : i / 8 < q.codeLen := Nat.div_lt_of_lt_mul hi
  have hread : q.data[i / 8]? = some q.data[i / 8] := List.getElem?_eq_getElem (hlen ▸ hbyte)
  exact ⟨_, hread, by rw [dataBit, dataByte, if_pos hbyte, hread, Option.map_some]⟩

end

/-- Settles O35: the first test of R180 holds. -/
theorem tickHoldsTheLineLow : Obligations.TickHoldsTheLineLow := by
  intro s tx f hg hon hnext hfit
  exact execFtick_of_branch hg hon (tickBranch_eq_next.mpr (.inl ⟨hnext, rfl⟩)) hg hfit

/-- Settles O34: the next bit lies inside the buffer. -/
theorem tickEmitsTheNextBit : Obligations.TickEmitsTheNextBit := by
  intro s tx f name q hg hon hnext hd hlen hbit hfitBit hfit
  obtain ⟨b, hread, hl⟩ := dataBit_eq_bit_of_byte hlen hbit
  have hemit := branchEmit_eq_next (tx := tx).mpr ⟨_, hl, hfitBit, rfl⟩
  have hbranch := tickBranch_eq_next.mpr (.inr ⟨hnext, name, q, hd, .inr ⟨hbit.ne, hemit⟩⟩)
  exact ⟨b, hread, execFtick_of_branch hg hon hbranch rfl hfit⟩

/-- Settles O36: either a repetition follows, or `TERM` runs on the counted repetition with the line low already. -/
theorem tickChecksTheRepetition : Obligations.TickChecksTheRepetition := by
  intro s tx f name q hg hon hnext hd hbit hfitRep hfit
  refine ⟨fun hreps hstart => ?_, fun hreps hroom => ?_⟩
  · have hcheck := branchRepCheck_eq_next (tx := tx).mpr ⟨hfitRep, .inr ⟨hreps, hstart, rfl⟩⟩
    exact execFtick_of_branch hg hon (tickBranch_of_repCheck hnext hd hbit hcheck) rfl hfit
  · have hterm := terminate_fixed_once
      (s := (s.setOut false).setGen (.fixed tx { f with repIdx := f.repIdx + 1 })) rfl hroom
    have hcheck := branchRepCheck_eq_next.mpr ⟨hfitRep, .inl ⟨hreps, hterm⟩⟩
    exact execFtick_of_branch hg hon (tickBranch_of_repCheck hnext hd hbit hcheck) rfl hfit

end Sys2Proof.Safety
end

section
/-! What the fixed-code generator's registers and the line can do under the invariant (43_fixed_code.md R185 to R188):
that the registers only move forward, that a trailing tick only counts, and when the generator terminates. -/

namespace Sys2Proof.Safety

open Sys2Proof.Machine

section
variable {i : Instr} {s t u : State} {tx tx' : TxRef} {f f' : FixedRegs} {q : FixedPayload} {name : String}

/-! ### What a tick does under the invariant -/

theorem Inv.fixed_tokens (h : Inv s) (hg : s.gen = .fixed tx f) : s.cq = tokensOf tx f.terminated := by
  obtain ⟨-, -, -, -, -, hcq, -⟩ := (genOk_fixed_iff hg).mp h.gen
  exact hcq

theorem Inv.fixed_descriptor (h : Inv s) (hg : s.gen = .fixed tx f) :
    ∃ name q, readDescriptor s tx = some ⟨name, .fixed q⟩ ∧ FixedOk s q f := by
  obtain ⟨-, -, -, -, -, -, hdescriptor⟩ := (genOk_fixed_iff hg).mp h.gen
  exact hdescriptor

/-- The invariant's clause of a running fixed-code generator, for the descriptor at hand. -/
theorem Inv.fixedOk (h : Inv s) (hg : s.gen = .fixed tx f) (hd : readDescriptor s tx = some ⟨name, .fixed q⟩) :
    FixedOk s q f := by
  obtain ⟨name', q', hd', hok⟩ := h.fixed_descriptor hg
  obtain ⟨-, rfl⟩ : name = name' ∧ q = q' := by simpa [hd] using hd'
  exact hok

/-- The line and the registers a tick's branch leaves, before the tick is counted (43_fixed_code.md R180 to R183); only
the last case is met by a terminated generator (R185). -/
inductive Tick (q : FixedPayload) (f : FixedRegs) : Level → FixedRegs → Prop
  | hold (hrun : f.terminated = false) : Tick q f false f
  | emit (l : Level) (hrun : f.terminated = false) : Tick q f l { f with bitIdx := f.bitIdx + 1 }
  | again (hrun : f.terminated = false) (hnext : f.nextRepStart ≤ f.t) (hbit : f.bitIdx = bitCount q) :
      Tick q f false { f with repIdx := f.repIdx + 1, nextRepStart := f.t + q.ticksBetween, bitIdx := 0 }
  | last : Tick q f false { f with repIdx := f.repIdx + 1, terminated := true }

theorem FixedOk.running_of_bits_left (h : FixedOk s q f) (hbit : f.bitIdx ≠ bitCount q) : f.terminated = false := by
  by_contra hterm
  exact hbit (h.ended (by simpa using hterm)).2.1

theorem FixedOk.running_of_repetitions_left (h : FixedOk s q f) (hreps : f.repIdx < q.repetitions) :
    f.terminated = false := by
  by_contra hterm
  have := (h.ended (by simpa using hterm)).1
  omega

theorem Inv.tickBranch (h : Inv s) (hg : s.gen = .fixed tx f) (hd : readDescriptor s tx = some ⟨name, .fixed q⟩)
    (hx : Machine.tickBranch tx f s = .next u) :
    ∃ out f', Tick q f out f' ∧
      u = ((s.setOut out).setGen (.fixed tx f')).setCq (tokensOf tx f'.terminated) := by
  have hok := h.fixedOk hg hd
  have hcq := h.fixed_tokens hg
  obtain ⟨hnext, rfl⟩ | ⟨hnext, name', q', hd', ⟨hbit, hcheck⟩ | ⟨hbit, hemit⟩⟩ := tickBranch_eq_next.mp hx
  · -- branch hold
    refine ⟨_, _, .hold (hok.holding hnext).1, ?_⟩
    rw [← hg, ← hcq]
    rfl
  · -- branch repetition check
    obtain ⟨-, rfl⟩ : name = name' ∧ q = q' := by simpa [hd] using hd'
    obtain ⟨-, ⟨-, hterm⟩ | ⟨hreps, -, rfl⟩⟩ := branchRepCheck_eq_next.mp hcheck
    · exact ⟨_, _, .last, terminate_fixed hterm rfl hcq⟩
    · refine ⟨_, _, .again (hok.running_of_repetitions_left (Nat.lt_of_succ_lt hreps)) hnext hbit, ?_⟩
      rw [← hcq]
      rfl
  · -- branch emit
    obtain ⟨-, rfl⟩ : name = name' ∧ q = q' := by simpa [hd] using hd'
    obtain ⟨l, -, -, rfl⟩ := branchEmit_eq_next.mp hemit
    refine ⟨_, _, .emit l (hok.running_of_bits_left hbit), ?_⟩
    rw [← hcq]
    rfl

/-- What `FTICK` leaves under the invariant: its branch's line and registers, the tick counted, and the queue that goes
with the flag. -/
theorem Inv.tick (h : Inv s) (hg : s.gen = .fixed tx f) (hd : readDescriptor s tx = some ⟨name, .fixed q⟩)
    (hx : exec .ftick s = .next t) :
    ∃ out f', Tick q f out f' ∧ t = { s with
      out := out
      gen := .fixed tx { f' with t := f'.t + 1 }
      cq := tokensOf tx f'.terminated
      reply := .nothing } := by
  obtain ⟨-, tx', f₀, u, hg', hu, tx₁, f₁, hug, -, rfl⟩ := execFtick_eq_next.mp hx
  obtain ⟨rfl, rfl⟩ := Gen.fixed.inj (hg.symm.trans hg')
  obtain ⟨out, f', htick, rfl⟩ := h.tickBranch hg hd hu
  obtain ⟨rfl, rfl⟩ := Gen.fixed.inj hug
  exact ⟨out, f', htick, rfl⟩

theorem Tick.t_eq {out : Level} (h : Tick q f out f') : f'.t = f.t := by
  cases h <;> rfl

/-! ### Forward only -/

/-- The registers of 43_fixed_code.md R188 that never go back. -/
structure FixedForward (f f' : FixedRegs) : Prop where
  t : f.t ≤ f'.t
  reps : f.repIdx ≤ f'.repIdx
  start : f.nextRepStart ≤ f'.nextRepStart
  flag : f.terminated = true → f'.terminated = true

theorem FixedForward.refl (f : FixedRegs) : FixedForward f f := ⟨le_rfl, le_rfl, le_rfl, id⟩

theorem FixedForward.of_flag_set (f : FixedRegs) : FixedForward f { f with terminated := true } :=
  ⟨le_rfl, le_rfl, le_rfl, fun _ => rfl⟩

/-- Every branch moves forward; a repetition check runs at or past the start of its own repetition, and puts the next
start no earlier than its own tick. -/
theorem Tick.forward {out : Level} (h : Tick q f out f') : FixedForward f f' := by
  cases h with
  | hold => exact .refl f
  | emit => exact ⟨le_rfl, le_rfl, le_rfl, id⟩
  | again hrun hnext => exact ⟨le_rfl, Nat.le_succ _, hnext.trans (Nat.le_add_right _ _), id⟩
  | last => exact ⟨le_rfl, Nat.le_succ _, le_rfl, fun _ => rfl⟩

theorem FixedForward.counted (h : FixedForward f f') : FixedForward f { f' with t := f'.t + 1 } :=
  ⟨h.t.trans (Nat.le_succ _), h.reps, h.start, h.flag⟩

theorem Tick.bitIdx_back {out : Level} (h : Tick q f out f') (hback : f'.bitIdx < f.bitIdx) :
    f'.bitIdx = 0 ∧ f.bitIdx = bitCount q := by
  cases h with
  | hold => exact absurd hback (Nat.lt_irrefl _)
  | emit => exact absurd hback (Nat.le_succ _).not_gt
  | again hrun hnext hbit => exact ⟨rfl, hbit⟩
  | last => exact absurd hback (Nat.lt_irrefl _)

/-- Of the interrupt events only `FTICK` is enabled for a fixed-code generator (60_exceptions.md R221 to R224). -/
theorem eq_ftick_of_fixed (hclass : opClassOf i = .event) (hx : exec i s = .next t) (hg : s.gen = .fixed tx f) :
    i = .ftick := by
  cases i with
  | brise =>
    obtain ⟨-, -, tx', p, u, hg', -⟩ := execBrise_eq_next.mp hx
    cases hg.symm.trans hg'
  | bfall =>
    obtain ⟨-, -, tx', p, hg', -⟩ := execBfall_eq_next.mp hx
    cases hg.symm.trans hg'
  | stick =>
    obtain ⟨-, tx', p, hg', -⟩ := execStick_eq_next.mp hx
    cases hg.symm.trans hg'
  | ftick => rfl
  | _ => cases hclass

/-- A command or a clean-up that leaves a fixed-code generator running has not touched it. -/
theorem fixed_regs_eq_of_task (hw : TaskWrites i s t) (hg : s.gen = .fixed tx f) (hg' : t.gen = .fixed tx' f') :
    f' = f := by
  obtain ⟨busy, active, gen, tmr, cq, events, reply, rfl, hsame | ⟨hidle, -⟩ | ⟨hempty, -⟩⟩ := hw
  · exact (Gen.fixed.inj (hg'.symm.trans (hsame.trans hg))).2
  · cases hg.symm.trans hidle
  · cases hg'.symm.trans hempty

/-- Beside `FTICK` only `TERM` writes the registers, and only the flag (44_dispatcher.md R195). -/
theorem Inv.fixed_regs_of_not_ftick (h : Inv s) (hi : i ≠ .ftick) (hx : exec i s = .next t)
    (hg : s.gen = .fixed tx f) (hg' : t.gen = .fixed tx' f') : f' = f ∨ f' = { f with terminated := true } := by
  cases hclass : opClassOf i with
  | task => exact .inl (fixed_regs_eq_of_task (task_writes hclass hx) hg hg')
  | event => exact absurd (eq_ftick_of_fixed hclass hx hg) hi
  | primitive =>
    cases i with
    | setout l =>
      obtain rfl := finish_eq_next.mp hx
      exact .inl (Gen.fixed.inj (hg'.symm.trans hg)).2
    | term =>
      obtain ⟨u, hu, rfl⟩ := execTerm_eq_next.mp hx
      obtain rfl := terminate_fixed hu hg (h.fixed_tokens hg)
      exact .inr (Gen.fixed.inj hg').2.symm
    | sched fn tx =>
      obtain ⟨-, rfl⟩ := execSched_eq_next.mp hx
      exact .inl (Gen.fixed.inj (hg'.symm.trans hg)).2
    | cleanup tx => exact .inl (fixed_regs_eq_of_task (execCleanup_writes hx) hg hg')
    | _ => cases hclass

/-- Every operation but `FTICK` moves the registers forward and keeps `F.bit_idx`. -/
theorem Inv.forward_of_not_ftick (h : Inv s) (hi : i ≠ .ftick) (hx : exec i s = .next t) (hg : s.gen = .fixed tx f)
    (hg' : t.gen = .fixed tx' f') : FixedForward f f' ∧ f'.bitIdx = f.bitIdx := by
  obtain rfl | rfl := h.fixed_regs_of_not_ftick hi hx hg hg'
  · exact ⟨.refl _, rfl⟩
  · exact ⟨.of_flag_set f, rfl⟩

end

/-- Settles O37: a tick by its branch, and every other operation keeps `F.bit_idx`. -/
theorem fixedRegistersOnlyMoveForward : Obligations.FixedRegistersOnlyMoveForward := by
  intro i s t tx tx' f f' h hx hg hg'
  by_cases hi : i = .ftick
  · subst hi
    obtain ⟨name, q, hd, -⟩ := h.fixed_descriptor hg
    obtain ⟨out, f₁, htick, rfl⟩ := h.tick hg hd hx
    obtain ⟨-, rfl⟩ := Gen.fixed.inj hg'
    obtain ⟨ht, hreps, hstart, hflag⟩ := htick.forward.counted
    refine ⟨ht, hreps, hstart, fun hback => ?_, hflag⟩
    obtain ⟨hzero, hall⟩ := htick.bitIdx_back hback
    exact ⟨rfl, hzero, name, q, hd, hall⟩
  · obtain ⟨⟨ht, hreps, hstart, hflag⟩, hbit⟩ := h.forward_of_not_ftick hi hx hg hg'
    exact ⟨ht, hreps, hstart, fun hback => absurd hbit hback.ne, hflag⟩

/-- Settles O38: a terminated generator's line is low and its token queued, so what the last branch writes of them is
what they hold. -/
theorem trailingFixedTicksAreHarmless : Obligations.TrailingFixedTicksAreHarmless := by
  intro i s t tx f h hg hterm hclass hx
  obtain ⟨name, q, hd, hok⟩ := h.fixed_descriptor hg
  have hout := hok.quiet_of_terminated hterm
  refine ⟨hout, ?_⟩
  obtain rfl := eq_ftick_of_fixed hclass hx hg
  obtain ⟨out, f', htick, rfl⟩ := h.tick hg hd hx
  cases htick with
  | hold hrun => simp [hterm] at hrun
  | emit l hrun => simp [hterm] at hrun
  | again hrun => simp [hterm] at hrun
  | last =>
    have hcq : s.cq = tokensOf tx true := by rw [h.fixed_tokens hg, hterm]
    simp only [hout, hcq, hterm]

/-- Settles O39: by the invariant before and after the tick, the flag is clear up to the tick of R186 and set past it,
and the tick counts one. -/
theorem fixedTerminatesAtItsLastTick : Obligations.FixedTerminatesAtItsLastTick := by
  intro s t tx f f' name q h hg hd hx hg' hrun
  have hafter := h.event rfl hx
  obtain ⟨out, f₁, htick, rfl⟩ := h.tick hg hd hx
  obtain ⟨-, rfl⟩ := Gen.fixed.inj hg'
  have hbefore := (h.fixedOk hg hd).t_le_fixedEnd hrun
  rw [(hafter.fixedOk rfl hd).terminated_iff, htick.t_eq]
  change fixedEnd q < f.t + 1 ↔ f.t = fixedEnd q
  omega

end Sys2Proof.Safety
end

section
/-! The dispatcher's operations, one at a time (44_dispatcher.md R195 to R198, R201): the next state each of them gives,
and what no interrupt event writes. -/

namespace Sys2Proof.Machine

section
variable {s : State} {fn : CleanupFn} {tx : TxRef}

theorem execSched_of_full (hfull : s.cfg.cqDepth ≤ s.cq.length) : execSched fn tx s = .refused .queueFull := by
  rw [execSched, schedule, if_neg hfull.not_gt, andThen_refused]

/-- What `CLEANUP` leaves, register by register (44_dispatcher.md R198). -/
theorem cleanedUp_eq (tx : TxRef) (s : State) :
    cleanedUp tx s = { s with
      ant := if s.ant.busy then { s.ant with busy := false, active := none } else s.ant
      gen := .invalid
      tmr := { baseOn := false, baseLevel := false, fixedOn := false }
      log := s.log ++ (if s.ant.busy = true ∧ s.ant.hookEnd = .filled then [.hookEnd] else []) ++
        [.notify (.completed tx)]
      reply := .nothing } := by
  cases hbusy : s.ant.busy with
  | true =>
    simp only [cleanedUp, hbusy, true_and, if_true, ← hookEvents_eq_ite]
    rfl
  | false =>
    simp only [cleanedUp, hbusy, Bool.false_eq_true, false_and, if_false, List.append_nil]
    rfl

end

/-- Settles O40: the two cases of `terminate` for each of the generators. -/
theorem terminateSetsTheFlagOnce : Obligations.TerminateSetsTheFlagOnce := by
  refine ⟨fun s tx p hg => ⟨fun hrun hroom => ?_, fun hterm => ?_⟩,
    fun s tx f hg => ⟨fun hrun hroom => ?_, fun hterm => ?_⟩⟩
  · have hfirst := terminate_eq_next.mpr (.inr (.inr (.inl ⟨tx, p, hg, hrun, hroom, rfl⟩)))
    exact execTerm_eq_next.mpr ⟨_, hfirst, rfl⟩
  · exact execTerm_eq_next.mpr ⟨s, terminate_eq_next.mpr (.inl ⟨tx, p, hg, hterm, rfl⟩), rfl⟩
  · have hfirst := terminate_eq_next.mpr (.inr (.inr (.inr ⟨tx, f, hg, hrun, hroom, rfl⟩)))
    exact execTerm_eq_next.mpr ⟨_, hfirst, rfl⟩
  · exact execTerm_eq_next.mpr ⟨s, terminate_eq_next.mpr (.inr (.inl ⟨tx, f, hg, hterm, rfl⟩)), rfl⟩

/-- Settles O42: `SCHED` answers exactly while the queue has room. -/
theorem scheduleAppendsAToken : Obligations.ScheduleAppendsAToken :=
  fun _ _ _ => ⟨fun hroom => execSched_eq_next.mpr ⟨hroom, rfl⟩, execSched_of_full⟩

/-- Settles O43: `CLEANUP` always answers, with `cleanedUp`. -/
theorem cleanupStopsReleasesAndNotifies : Obligations.CleanupStopsReleasesAndNotifies := by
  intro s tx
  exact (execCleanup_eq tx s).trans (congrArg _ (cleanedUp_eq tx s))

/-- Settles O44: `DISPATCH` is the clean-up of the head, on the queue without it. -/
theorem dispatchRunsTheOldestCleanup : Obligations.DispatchRunsTheOldestCleanup := by
  intro s
  refine ⟨fun hempty => execDispatch_eq_next.mpr (.inl ⟨hempty, rfl⟩), fun fn tx rest hcq => ?_⟩
  have hdispatch : exec .dispatch s = exec (.cleanup tx) { s with cq := rest } :=
    (execDispatch_eq_next.mpr (.inr ⟨⟨fn, tx⟩, rest, hcq, rfl⟩)).trans (execCleanup_eq tx (s.setCq rest)).symm
  exact ⟨hdispatch, hdispatch.trans (cleanupStopsReleasesAndNotifies { s with cq := rest } tx)⟩

/-- Settles O55: none of these is among what an event can write. -/
theorem interruptEventsLeaveAntennaAndLog : Obligations.InterruptEventsLeaveAntennaAndLog := by
  intro i s t hclass h
  obtain ⟨out, gen, level, cq, rfl, -⟩ := event_writes hclass h
  exact ⟨rfl, rfl, rfl, rfl⟩

end Sys2Proof.Machine
end

section
/-! The completion queue under the invariant (44_dispatcher.md R200, R202): it holds the terminated generator's token at
most, and while it does, nothing but `DISPATCH` frees the antenna. -/

namespace Sys2Proof.Safety

open Sys2Proof.Machine

section
variable {i : Instr} {s t : State} {tx : TxRef}

/-! ### One token, one generator -/

theorem length_tokensOf_le (tx : TxRef) (terminated : Bool) : (tokensOf tx terminated).length ≤ 1 := by
  cases terminated with
  | false => exact Nat.zero_le 1
  | true => exact le_rfl

theorem tx_of_mem_tokensOf {terminated : Bool} {k : Token} (hk : k ∈ tokensOf tx terminated) : k.tx = tx := by
  cases terminated with
  | false => cases hk
  | true => rw [List.mem_singleton.mp hk]

/-- A queue in order holds one token at most, and that of the generator in the slot. -/
theorem queue_of_tokensOf {terminated : Bool} (hcq : s.cq = tokensOf tx terminated) (htx : s.gen.tx = some tx) :
    s.cq.length ≤ 1 ∧ ∀ k ∈ s.cq, s.gen.tx = some k.tx := by
  rw [hcq]
  exact ⟨length_tokensOf_le tx terminated, fun k hk => by rw [htx, tx_of_mem_tokensOf hk]⟩

/-! ### From the first `TERM` to the `DISPATCH` -/

/-- The generator in the slot has terminated (10_state.md R36, R41). -/
def HasTerminated (s : State) : Prop :=
  (∃ tx p, s.gen = .pulse tx p ∧ p.terminated = true) ∨ (∃ tx f, s.gen = .fixed tx f ∧ f.terminated = true)

theorem terminated_of_tokensOf_ne_nil {terminated : Bool} (h : tokensOf tx terminated ≠ []) : terminated = true := by
  obtain ⟨k, rest, hcons⟩ := List.exists_cons_of_ne_nil h
  exact (tokensOf_eq_cons hcons).1

/-- Only a terminated generator has a token queued (44_dispatcher.md R195). -/
theorem Inv.hasTerminated (h : Inv s) (hqueued : s.cq ≠ []) : HasTerminated s := by
  cases hg : s.gen with
  | invalid =>
    obtain ⟨-, hempty, -⟩ := (genOk_invalid_iff hg).mp h.gen
    exact absurd hempty hqueued
  | pulse tx p =>
    rw [h.pulse_tokens hg] at hqueued
    exact .inl ⟨tx, p, hg, terminated_of_tokensOf_ne_nil hqueued⟩
  | fixed tx f =>
    rw [h.fixed_tokens hg] at hqueued
    exact .inr ⟨tx, f, hg, terminated_of_tokensOf_ne_nil hqueued⟩

theorem HasTerminated.not_idle (h : HasTerminated s) : generatorIdle s = false := by
  refine generatorIdle_eq_false_iff.mpr (.inl ?_)
  obtain ⟨tx, p, hg, -⟩ | ⟨tx, f, hg, -⟩ := h <;> simp [hg]

theorem Inv.busy_of_queued (h : Inv s) (hqueued : s.cq ≠ []) : s.ant.busy = true := by
  obtain ⟨k, rest, hcq⟩ := List.exists_cons_of_ne_nil hqueued
  exact (h.gen.of_token hcq).1

theorem execBegin_of_not_idle {hw : Bool} (hrunning : generatorIdle s = false) :
    execBegin tx hw s = .refused .notAdmitted ∨ execBegin tx hw s = .refused .alreadyBegun := by
  cases hadm : admittedIs s tx with
  | false => exact .inl (execBegin_of_not_admitted hadm)
  | true => exact .inr (execBegin_of_running hadm hrunning)

/-- With a generator running for a busy antenna a command but `DISPATCH` turns its caller away (40_antenna.md R117). -/
theorem command_keeps_antenna_and_queue (hclass : opClassOf i = .task) (hi : i ≠ .dispatch)
    (hbusy : s.ant.busy = true) (hrunning : generatorIdle s = false) (hx : exec i s = .next t) :
    t.ant = s.ant ∧ t.cq = s.cq := by
  cases i with
  | acq tx =>
    obtain ⟨-, rfl⟩ | ⟨hfree, -⟩ := execAcq_eq_next.mp hx
    · exact ⟨rfl, rfl⟩
    · simp [hbusy] at hfree
  | rel =>
    obtain ⟨-, rfl⟩ | ⟨-, hidle, -⟩ := execRel_eq_next.mp hx
    · exact ⟨rfl, rfl⟩
    · simp [hrunning] at hidle
  | bsy =>
    obtain rfl := next_eq_next.mp hx
    exact ⟨rfl, rfl⟩
  | begin tx hw =>
    obtain ⟨-, hidle, -⟩ := execBegin_eq_next.mp hx
    simp [hrunning] at hidle
  | dispatch => exact absurd rfl hi
  | req tx hw =>
    obtain rfl := next_eq_next.mp ((request_of_busy hbusy).symm.trans hx)
    exact ⟨rfl, rfl⟩
  | reqi n hw =>
    cases hlook : lookupSignal s.signals n with
    | none =>
      obtain rfl := next_eq_next.mp ((execReqi_of_unknown hlook).symm.trans hx)
      exact ⟨rfl, rfl⟩
    | some tx =>
      have hreq := (execReqi_of_known hlook).symm.trans hx
      obtain rfl := next_eq_next.mp ((request_of_busy hbusy).symm.trans hreq)
      exact ⟨rfl, rfl⟩
  | _ => cases hclass

/-- A trailing event queues nothing more (60_exceptions.md R219). -/
theorem Inv.trailing_event_keeps_antenna_and_queue (h : Inv s) (hterm : HasTerminated s)
    (hclass : opClassOf i = .event) (hx : exec i s = .next t) : t.ant = s.ant ∧ t.cq = s.cq := by
  obtain ⟨tx, p, hg, hflag⟩ | ⟨tx, f, hg, hflag⟩ := hterm
  · obtain ⟨-, c, n, l, rfl⟩ := trailingPulseEventsAreHarmless i s t tx p h hg hflag hclass hx
    exact ⟨rfl, rfl⟩
  · obtain ⟨-, rfl⟩ := trailingFixedTicksAreHarmless i s t tx f h hg hflag hclass hx
    exact ⟨rfl, rfl⟩

end

/-- Settles O46: the three cases of the generator slot. -/
theorem oneTokenAndOneGeneratorAtMost : Obligations.OneTokenAndOneGeneratorAtMost := by
  intro s h
  cases hg : s.gen with
  | invalid =>
    obtain ⟨htmr, hcq, -⟩ := (genOk_invalid_iff hg).mp h.gen
    simp [htmr, hcq]
  | pulse tx p =>
    obtain ⟨hbusy, hactive, -, hoff, hcq, -⟩ := (genOk_pulse_iff hg).mp h.gen
    obtain ⟨hone, hown⟩ := queue_of_tokensOf hcq (by rw [hg]; rfl)
    rw [hg] at hown
    exact ⟨hone, hown, fun _ => ⟨hbusy, hactive.symm⟩, by simp [hoff]⟩
  | fixed tx f =>
    obtain ⟨hbusy, hactive, hoff, -, -, hcq, -⟩ := (genOk_fixed_iff hg).mp h.gen
    obtain ⟨hone, hown⟩ := queue_of_tokensOf hcq (by rw [hg]; rfl)
    rw [hg] at hown
    exact ⟨hone, hown, fun _ => ⟨hbusy, hactive.symm⟩, by simp [hoff]⟩

/-- Settles O45: a queued token is a terminated generator's, so the antenna is busy, the generator not idle, and the
events are trailing ones. -/
theorem antennaStaysBusyUntilDispatch : Obligations.AntennaStaysBusyUntilDispatch := by
  intro s h hqueued
  have hbusy := h.busy_of_queued hqueued
  have hterm := h.hasTerminated hqueued
  refine ⟨hbusy, fun tx => (acquireAdmitsOnlyAFreeAntenna s tx).2 hbusy,
    fun tx hw => execBegin_of_not_idle hterm.not_idle, ?_, fun i t hclass hi hx => ?_⟩
  · exact (releaseFreesAnIdleAntenna s).2.2 hbusy (generatorIdle_eq_false_iff.mp hterm.not_idle)
  · cases hc : opClassOf i with
    | task => exact command_keeps_antenna_and_queue hc hi hbusy hterm.not_idle hx
    | event => exact h.trailing_event_keeps_antenna_and_queue hterm hc hx
    | primitive => exact absurd hc hclass

end Sys2Proof.Safety
end

section
/-! The stops the invariant rules out (20_memory.md R71; 44_dispatcher.md R196, R202; 93_implementation_defined.md U1):
by which answers each operation of the outside can end. -/

namespace Sys2Proof.Safety

open Sys2Proof.Machine

section
variable {i : Instr} {s : State} {tx : TxRef}

/-- An answer that is no fault, and no refusal for a full queue, an index outside the descriptor or a changed
descriptor. -/
def Foreseen {α : Type} (x : Run α) : Prop :=
  match x with
  | .next _ => True
  | .fault _ => False
  | .refused r => r ≠ .queueFull ∧ r ≠ .badIndex ∧ r ≠ .descriptorMutated

theorem Foreseen.next {α : Type} (a : α) : Foreseen (.next a : Run α) := trivial

theorem Foreseen.refused {α : Type} {r : Refusal} (h : r ≠ .queueFull ∧ r ≠ .badIndex ∧ r ≠ .descriptorMutated) :
    Foreseen (.refused r : Run α) := h

theorem Foreseen.andThen {α β : Type} {x : Run α} {f : α → Run β} (hx : Foreseen x)
    (hf : ∀ a, x = .next a → Foreseen (f a)) : Foreseen (Machine.andThen x f) := by
  cases x with
  | next a => exact hf a rfl
  | fault r => exact hx.elim
  | refused r => exact hx

theorem Foreseen.requireFits {c : Params} {v : Nat} {k : Run State} (hk : Foreseen k) :
    Foreseen (Machine.requireFits c v k) := by
  unfold Machine.requireFits
  split
  · exact hk
  · exact .refused (by decide)

/-- What a foreseen answer is not. -/
theorem Foreseen.not_stopped {α : Type} {x : Run α} (h : Foreseen x) :
    x ≠ .refused .queueFull ∧ x ≠ .refused .badIndex ∧ (∀ r, x ≠ .fault r) ∧ x ≠ .refused .descriptorMutated := by
  cases x with
  | next a => simp
  | fault r => exact h.elim
  | refused r =>
    obtain ⟨hqueue, hindex, hmutated⟩ := h
    simp [hqueue, hindex, hmutated]

/-! ### Commands, in any state -/

theorem foreseen_release (s : State) : Foreseen (release s) := by
  unfold release
  split
  · split
    · exact .next _
    · exact .refused (by decide)
  · exact .next _

theorem foreseen_loadGenerator (v : Variant) (s : State) : Foreseen (loadGenerator tx v s) := by
  cases v with
  | pulse => exact (Foreseen.next _).requireFits
  | fixed => exact .next _

theorem foreseen_beginWith {hw : Bool} {onFault onOk : State → Run State} (hfault : ∀ u, Foreseen (onFault u))
    (hok : ∀ u, Foreseen (onOk u)) : Foreseen (beginWith tx hw s onFault onOk) := by
  unfold beginWith withGoodDescriptor
  split
  case isFalse => exact .refused (by decide)
  case isTrue =>
  split
  case isFalse => exact .refused (by decide)
  case isTrue =>
  split
  case h_2 => exact .refused (by decide)
  case h_1 d _ =>
  split
  case isFalse => exact .refused (by decide)
  case isTrue =>
  cases hw with
  | false => exact hfault s
  | true => exact (foreseen_loadGenerator d.variant s).andThen fun u _ => hok u

theorem foreseen_request {hw : Bool} (s : State) : Foreseen (request tx hw s) := by
  unfold request
  split
  · exact .next _
  · exact foreseen_beginWith (fun u => (foreseen_release u).andThen fun _ _ => .next _) fun _ => .next _

theorem foreseen_of_task (hclass : opClassOf i = .task) (s : State) : Foreseen (exec i s) := by
  cases i with
  | acq tx =>
    change Foreseen (execAcq tx s)
    unfold execAcq
    split
    · exact .next _
    · exact .next _
  | rel => exact (foreseen_release s).andThen fun _ _ => .next _
  | bsy => exact .next _
  | begin tx hw => exact foreseen_beginWith (fun _ => .next _) fun _ => .next _
  | dispatch =>
    change Foreseen (execDispatch s)
    unfold execDispatch
    split
    case h_1 => exact .next _
    case h_2 k rest _ =>
      rw [runCleanup, cleanUp_eq]
      exact .next _
  | req tx hw => exact foreseen_request s
  | reqi n hw =>
    change Foreseen (execReqi n hw s)
    unfold execReqi
    split
    · exact .next _
    · exact foreseen_request s
  | _ => cases hclass

/-! ### Interrupt events, under the invariant -/

section
variable {p : PulseRegs} {q : PulsePayload} {f : FixedRegs} {r : FixedPayload}

theorem foreseen_stageCode (hwf : q.wellFormed = true) (hbit : p.bitIdx < q.L) :
    Foreseen (stageCode tx p q s) := by
  obtain ⟨b, hb⟩ := codeBit_of_lt hwf hbit
  rw [stageCode, hb]
  exact (Foreseen.next _).requireFits.requireFits

theorem foreseen_terminate_pulse (hg : s.gen = .pulse tx p)
    (hroom : p.terminated = false → s.cq.length < s.cfg.cqDepth) : Foreseen (terminate s) := by
  rw [terminate_pulse_once hg hroom]
  exact .next _

theorem foreseen_terminate_fixed (hg : s.gen = .fixed tx f)
    (hroom : f.terminated = false → s.cq.length < s.cfg.cqDepth) : Foreseen (terminate s) := by
  rw [terminate_fixed_once hg hroom]
  exact .next _

theorem foreseen_stageRepeatCheck (hroom : p.terminated = false → s.cq.length < s.cfg.cqDepth) :
    Foreseen (stageRepeatCheck tx p q s) := by
  refine Foreseen.requireFits ?_
  split
  · exact foreseen_terminate_pulse rfl hroom
  · unfold nextPulseRep
    split
    · exact .next _
    · exact .refused (by decide)

/-- The descriptor is there, a bit to send lies inside it, and a token to queue finds room. -/
theorem Inv.foreseen_riseStage (h : Inv s) (hg : s.gen = .pulse tx p) : Foreseen (Machine.riseStage tx p s) := by
  obtain ⟨name, q, hd, hok⟩ := h.pulse_descriptor hg
  have hroom : p.terminated = false → s.cq.length < s.cfg.cqDepth := fun hrun =>
    (h.room (h.pulse_tokens hg)).resolve_left (by simp [hrun])
  unfold Machine.riseStage
  split
  case isTrue => exact .next _
  case isFalse =>
  split
  case isTrue => exact .next _
  case isFalse =>
  rw [withPulsePayload_eq hd]
  split
  case isTrue hbit => exact foreseen_stageCode hok.wellFormed hbit
  case isFalse => exact foreseen_stageRepeatCheck hroom

theorem foreseen_branchEmit (hlen : r.codeLen = r.data.length) (hbit : f.bitIdx < bitCount r) :
    Foreseen (branchEmit tx f r s) := by
  obtain ⟨l, hl⟩ := dataBit_of_lt hlen hbit
  rw [branchEmit, hl]
  exact (Foreseen.next _).requireFits

theorem foreseen_branchRepCheck (hroom : f.terminated = false → s.cq.length < s.cfg.cqDepth) :
    Foreseen (branchRepCheck tx f r s) := by
  refine Foreseen.requireFits ?_
  split
  · exact foreseen_terminate_fixed rfl hroom
  · exact (Foreseen.next _).requireFits

theorem Inv.foreseen_tickBranch (h : Inv s) (hg : s.gen = .fixed tx f) : Foreseen (Machine.tickBranch tx f s) := by
  obtain ⟨name, r, hd, hok⟩ := h.fixed_descriptor hg
  obtain ⟨-, hlen, -⟩ := fixed_wellFormed_iff.mp hok.wellFormed
  have hroom : f.terminated = false → s.cq.length < s.cfg.cqDepth := fun hrun =>
    (h.room (h.fixed_tokens hg)).resolve_left (by simp [hrun])
  unfold Machine.tickBranch
  split
  case isTrue => exact .next _
  case isFalse =>
  rw [withFixedPayload_eq hd]
  split
  case isTrue => exact foreseen_branchRepCheck hroom
  case isFalse hbit => exact foreseen_branchEmit hlen (lt_of_le_of_ne hok.bitIdx_le hbit)

/-- Every branch of a tick leaves a fixed-code generator for R184 to count in. -/
theorem foreseen_advanceTick {u : State} (hu : Machine.tickBranch tx f s = .next u) (hg : s.gen = .fixed tx f) :
    Foreseen (advanceTick u) := by
  obtain ⟨l, g, cq, rfl, htag⟩ := tickBranch_writes hg hu
  cases g with
  | fixed tx' f' => exact (Foreseen.next _).requireFits
  | _ => simp [hg, Gen.tag] at htag

end

theorem exists_pulse_of_tag (htag : s.gen.tag = .pulse) : ∃ tx p, s.gen = .pulse tx p := by
  cases hg : s.gen with
  | pulse tx p => exact ⟨tx, p, rfl⟩
  | _ => simp [hg, Gen.tag] at htag

theorem exists_fixed_of_tag (htag : s.gen.tag = .fixed) : ∃ tx f, s.gen = .fixed tx f := by
  cases hg : s.gen with
  | fixed tx f => exact ⟨tx, f, rfl⟩
  | _ => simp [hg, Gen.tag] at htag

/-- A handler runs only with its own generator in the slot (60_exceptions.md R221 to R225), so it reads registers that
hold a value. -/
theorem Inv.foreseen_event (h : Inv s) (hclass : opClassOf i = .event) : Foreseen (exec i s) := by
  cases i with
  | brise =>
    change Foreseen (execBrise s)
    unfold execBrise
    split
    case isFalse => exact .refused (by decide)
    case isTrue henabled =>
      obtain ⟨tx, p, hg⟩ := exists_pulse_of_tag (briseEnabled_iff.mp henabled).1
      rw [withPulse_eq hg]
      exact (h.foreseen_riseStage hg).andThen fun _ _ => .next _
  | bfall =>
    change Foreseen (execBfall s)
    unfold execBfall
    split
    case isFalse => exact .refused (by decide)
    case isTrue henabled =>
      obtain ⟨tx, p, hg⟩ := exists_pulse_of_tag (bfallEnabled_iff.mp henabled).1
      rw [withPulse_eq hg]
      exact (Foreseen.next _).requireFits
  | stick =>
    change Foreseen (execStick s)
    unfold execStick
    split
    case isFalse => exact .refused (by decide)
    case isTrue henabled =>
      obtain ⟨tx, p, hg⟩ := exists_pulse_of_tag (stickEnabled_iff.mp henabled).1
      rw [withPulse_eq hg]
      split
      · exact .next _
      · exact .next _
  | ftick =>
    change Foreseen (execFtick s)
    unfold execFtick
    split
    case isFalse => exact .refused (by decide)
    case isTrue henabled =>
      obtain ⟨tx, f, hg⟩ := exists_fixed_of_tag (ftickEnabled_iff.mp henabled).1
      rw [withFixed_eq hg]
      exact (h.foreseen_tickBranch hg).andThen fun u hu => foreseen_advanceTick hu hg
  | _ => cases hclass

theorem Inv.foreseen_exec (h : Inv s) (hclass : opClassOf i ≠ .primitive) : Foreseen (exec i s) := by
  cases hc : opClassOf i with
  | task => exact foreseen_of_task hc s
  | event => exact h.foreseen_event hc
  | primitive => exact absurd hc hclass

/-! ### A step -/

theorem foreseen_of_issue_error {o : Origin} {w : OpWord} {a : Operands} {r : Refusal}
    (hi : issue o w a s = .error r) : Foreseen (.refused r : Run State) := by
  unfold issue at hi
  split at hi
  case isFalse =>
    cases hi
    exact .refused (by decide)
  case isTrue =>
  split at hi
  case h_1 e _ =>
    cases hi
    cases e <;> exact .refused (by decide)
  case h_2 =>
  split at hi
  case isTrue => cases hi
  case isFalse =>
    cases hi
    exact .refused (by decide)

theorem foreseen_bootWith (b : Boot) (s : State) : Foreseen (bootWith b s) := by
  unfold bootWith
  split
  · exact .next _
  · exact .refused (by decide)

/-- What a step hands to the meaning of an operation keeps the invariant (log 11). -/
theorem Inv.noted (h : Inv s) (i : Instr) (rest : List Input) : Inv (noteRequest i { s with inputs := rest }) :=
  h.congr rfl rfl rfl rfl rfl rfl rfl rfl fun hopen => ⟨(Bool.or_eq_false_iff.mp hopen).1, rfl⟩

/-- The one other way a step can end is a caller's write to a borrowed descriptor (20_memory.md R78). -/
theorem Inv.foreseen_step (h : Inv s) (houtside : OutsideOnly s) :
    Foreseen (Machine.step s) ∨ Machine.step s = .refused .descriptorMutated := by
  cases hin : s.inputs with
  | nil =>
    have hidle : Machine.step s = .next s := by simp only [Machine.step, hin]
    rw [hidle]
    exact .inl (.next s)
  | cons x rest =>
    cases x with
    | operation o w a =>
      cases hi : issue o w a s with
      | error r =>
        rw [step_of_issue_error hin hi]
        exact .inl (foreseen_of_issue_error hi)
      | ok i =>
        have ho : originOutside o = true := houtside (.operation o w a) (by simp [hin])
        rw [step_of_issue_ok hin hi]
        exact .inl ((h.noted i rest).foreseen_exec (class_of_issue_outside ho hi))
    | descriptor tx d =>
      rw [step_of_descriptor hin]
      unfold writeDescriptor
      split
      · exact .inr rfl
      · exact .inl (.next _)
    | boot b =>
      have hboot : Machine.step s = bootWith b { s with inputs := rest } := by simp only [Machine.step, hin]
      rw [hboot]
      exact .inl (foreseen_bootWith b _)

end

/-- Settles O51: a step ends as foreseen, or by refusing a caller's write, which is none of the first three stops. -/
theorem unreachableStopsNeverHappen : Obligations.UnreachableStopsNeverHappen := by
  intro s h houtside
  have hexec : ∀ i, opClassOf i ≠ .primitive → exec i s ≠ .refused .descriptorMutated := by
    intro i hclass
    obtain ⟨-, -, -, hmutated⟩ := (h.foreseen_exec hclass).not_stopped
    exact hmutated
  obtain hstep | hstep := h.foreseen_step houtside
  · obtain ⟨hqueue, hindex, hfault, -⟩ := hstep.not_stopped
    exact ⟨hqueue, hindex, hfault, hexec⟩
  · rw [hstep]
    exact ⟨by simp, by simp, nofun, hexec⟩

end Sys2Proof.Safety
end

section
/-! What masks an interrupt event (60_exceptions.md R225): the enabling conditions of R221 to R224, negated. Each handler
tests its condition before it reads anything else. -/

namespace Sys2Proof.Machine

section
variable {s : State}

theorem not_briseEnabled_iff :
    ¬ briseEnabled s = true ↔ s.gen.tag ≠ .pulse ∨ s.tmr.baseOn = false ∨ s.tmr.baseLevel = true := by
  rw [briseEnabled_iff, not_and_or, not_and_or, Bool.not_eq_true, Bool.not_eq_false]

theorem not_bfallEnabled_iff :
    ¬ bfallEnabled s = true ↔ s.gen.tag ≠ .pulse ∨ s.tmr.baseOn = false ∨ s.tmr.baseLevel = false := by
  rw [bfallEnabled_iff, not_and_or, not_and_or, Bool.not_eq_true, Bool.not_eq_true]

theorem not_stickEnabled_iff : ¬ stickEnabled s = true ↔ s.gen.tag ≠ .pulse ∨ s.tmr.baseOn = false := by
  rw [stickEnabled_iff, not_and_or, Bool.not_eq_true]

theorem not_ftickEnabled_iff : ¬ ftickEnabled s = true ↔ s.gen.tag ≠ .fixed ∨ s.tmr.fixedOn = false := by
  rw [ftickEnabled_iff, not_and_or, Bool.not_eq_true]

theorem execBrise_of_disabled (h : ¬ briseEnabled s = true) : execBrise s = .refused .timerNotEnabled :=
  if_neg h

theorem execBfall_of_disabled (h : ¬ bfallEnabled s = true) : execBfall s = .refused .timerNotEnabled :=
  if_neg h

theorem execStick_of_disabled (h : ¬ stickEnabled s = true) : execStick s = .refused .timerNotEnabled :=
  if_neg h

theorem execFtick_of_disabled (h : ¬ ftickEnabled s = true) : execFtick s = .refused .timerNotEnabled :=
  if_neg h

end

/-- Settles O27: the four hypotheses are the negated enabling conditions, under which each handler is refused. -/
theorem disabledEventsAreRefused : Obligations.DisabledEventsAreRefused := by
  intro s
  refine ⟨fun hbrise => ?_, fun hbfall => ?_, fun hstick => ?_, fun hftick => ?_⟩
  · exact execBrise_of_disabled (not_briseEnabled_iff.mpr hbrise)
  · exact execBfall_of_disabled (not_bfallEnabled_iff.mpr hbfall)
  · exact execStick_of_disabled (not_stickEnabled_iff.mpr hstick)
  · exact execFtick_of_disabled (not_ftickEnabled_iff.mpr hftick)

end Sys2Proof.Machine
end

section
/-! Boot and the return to idle (70_reset_and_hazards.md R250, R252 to R254): boot software configures the engine once,
before the first request, and the `DISPATCH` of a terminated transmission leaves the engine as constructed. -/

namespace Sys2Proof.Safety

open Sys2Proof.Machine

section
variable {s t : State} {b : Boot} {o : Origin} {i : Instr} {rest : List Input}

/-! ### When boot is open -/

theorem step_of_boot (hin : s.inputs = .boot b :: rest) : step s = bootWith b { s with inputs := rest } := by
  simp only [step, hin]

theorem bootWith_refused (h : b.cfg.legal = false ∨ bootOpen s = false) : bootWith b s = .refused .badConfig := by
  refine if_neg fun haccepted => ?_
  obtain ⟨hlegal, hopen⟩ := Bool.and_eq_true_iff.mp haccepted
  obtain hillegal | hclosed := h
  · exact Bool.false_ne_true (hillegal.symm.trans hlegal)
  · exact Bool.false_ne_true (hclosed.symm.trans hopen)

theorem bootOpen_eq_false (h : s.bootClosed = true ∨ s.log ≠ [] ∨ s.ant.busy = true) : bootOpen s = false := by
  refine Bool.eq_false_iff.mpr fun hopen => ?_
  obtain ⟨hfresh, hfree, -, -, hlog⟩ := bootOpen_iff.mp hopen
  obtain hclosed | hlogged | hbusy := h
  · exact Bool.false_ne_true (hfresh.symm.trans hclosed)
  · exact hlogged hlog
  · exact Bool.false_ne_true (hfree.symm.trans hbusy)

/-- Under the invariant the mark alone tells whether boot is open: before the first request the antenna is free, so no
generator and no timer runs and no token is queued. -/
theorem Inv.bootOpen (h : Inv s) (hfresh : s.bootClosed = false) : Machine.bootOpen s = true := by
  obtain ⟨hfree, hlog⟩ := h.boot_first hfresh
  have hgen := h.gen.invalid_of_free hfree
  obtain ⟨htmr, hcq, -⟩ := (genOk_invalid_iff hgen).mp h.gen
  have hidle : generatorIdle s = true := generatorIdle_iff.mpr ⟨hgen, by rw [htmr], by rw [htmr]⟩
  exact bootOpen_iff.mpr ⟨hfresh, hfree, hidle, hcq, hlog⟩

/-! ### What closes boot -/

theorem step_of_encoded (hin : s.inputs = .operation o (encode i).1 (encode i).2 :: rest) (hx : step s = .next t) :
    exec i (noteRequest i { s with inputs := rest }) = .next t := by
  cases hi : issue o (encode i).1 (encode i).2 s with
  | error r =>
    rw [step_of_issue_error hin hi] at hx
    cases hx
  | ok j =>
    obtain ⟨-, hdec, -⟩ := issue_eq_ok.mp hi
    obtain rfl : i = j := Option.some.inj ((decodeWord_encode i).symm.trans (decode_eq_ok_iff.mp hdec).1)
    exact (step_of_issue_ok hin hi).symm.trans hx

/-- The mark is set before the request runs, and no operation writes it (log 11). -/
theorem bootClosed_of_request (hin : s.inputs = .operation o (encode i).1 (encode i).2 :: rest)
    (hreq : isRequest i = true) (hx : step s = .next t) : t.bootClosed = true := by
  obtain ⟨-, -, -, -, -, hmark⟩ := noOperationWritesParameters i _ t (step_of_encoded hin hx)
  rw [hmark, noteRequest_bootClosed, hreq, Bool.or_true]

/-- What boot software sets is fixed from then on: nothing but a boot writes it, and a boot is refused
(92_eei_decisions.md D16). -/
theorem step_keeps_boot_settings (hclosed : s.bootClosed = true) (hx : step s = .next t) :
    t.bootClosed = true ∧ t.cfg = s.cfg ∧ t.signals = s.signals ∧
    t.ant.hookBegin = s.ant.hookBegin ∧ t.ant.hookEnd = s.ant.hookEnd := by
  obtain ⟨-, rfl⟩ | ⟨o, w, a, rest, i, -, -, hx⟩ | ⟨tx, d, rest, -, hx⟩ | ⟨b, rest, -, hx⟩ := step_eq_next.mp hx
  · exact ⟨hclosed, rfl, rfl, rfl, rfl⟩
  · obtain ⟨hcfg, hsignals, hbegin, hend, -, hmark⟩ := noOperationWritesParameters i _ t hx
    exact ⟨by rw [hmark, noteRequest_bootClosed, hclosed, Bool.true_or], hcfg, hsignals, hbegin, hend⟩
  · obtain ⟨-, rfl⟩ := writeDescriptor_eq_next.mp hx
    exact ⟨hclosed, rfl, rfl, rfl, rfl⟩
  · obtain ⟨-, hopen, -⟩ := bootWith_eq_next.mp hx
    obtain ⟨hfresh, -⟩ := bootOpen_iff.mp hopen
    exact absurd (hfresh.symm.trans hclosed) Bool.false_ne_true

/-! ### The queue of a terminated transmission -/

/-- Only the running generator's own clean-up is ever queued (44_dispatcher.md R195, R202). -/
theorem Inv.queue_eq {tx : TxRef} (h : Inv s) (hqueued : s.cq ≠ []) (htx : s.gen.tx = some tx) :
    s.cq = [⟨.cleanup, tx⟩] := by
  obtain ⟨k, rest, hcq⟩ := List.exists_cons_of_ne_nil hqueued
  obtain ⟨-, hrest, -⟩ := h.gen.of_token hcq
  obtain ⟨-, htoken, -⟩ := oneTokenAndOneGeneratorAtMost s h
  have hk : k.tx = tx := Option.some.inj ((htoken k (by simp [hcq])).symm.trans htx)
  rw [hcq, hrest, ← hk]

end

/-- Settles O7: a boot answers exactly while boot is open, a request closes it before it runs, and nothing but a boot
writes what boot sets. -/
theorem bootSetsConfigurationBeforeRequests : Obligations.BootSetsConfigurationBeforeRequests := by
  refine ⟨fun s b rest hin => ?_, fun s t o i rest hin hi hx => ?_, fun s t hx hclosed => ?_⟩
  · rw [step_of_boot hin]
    refine ⟨fun hlegal hfresh hfree hgen hbase hfixed hcq hlog => ?_, fun hlegal hfresh h => ?_, fun hrefused => ?_⟩
    · have hidle : generatorIdle s = true := generatorIdle_iff.mpr ⟨hgen, hbase, hfixed⟩
      exact bootWith_eq_next.mpr ⟨hlegal, bootOpen_iff.mpr ⟨hfresh, hfree, hidle, hcq, hlog⟩, rfl⟩
    · exact ⟨_, bootWith_eq_next.mpr ⟨hlegal, h.bootOpen hfresh, rfl⟩⟩
    · exact bootWith_refused (hrefused.imp_right bootOpen_eq_false)
  · obtain ⟨tx, rfl⟩ | ⟨tx, hw, rfl⟩ | ⟨tx, hw, rfl⟩ | ⟨n, hw, rfl⟩ := hi <;>
      exact bootClosed_of_request hin rfl hx
  · exact step_keeps_boot_settings hclosed hx

/-- Settles O47: the one token queued is the generator's; its clean-up resets generator, timers, antenna and queue, and
the line has been low since the generator terminated. -/
theorem dispatchRestoresTheIdleState : Obligations.DispatchRestoresTheIdleState := by
  intro s tx h hqueued htx
  have hcq := h.queue_eq hqueued htx
  obtain ⟨hbusy, -, hlow⟩ := h.gen.of_token hcq
  have hclosed := h.bootClosed_of_busy hbusy
  obtain ⟨-, hdispatch⟩ := dispatchRunsTheOldestCleanup s
  rw [(hdispatch .cleanup tx [] hcq).2]
  simp only [hbusy, hlow, hclosed, true_and, if_true, State.init]

end Sys2Proof.Safety
end
